-- ==== Sys2Proof/Word.lean ====
section
/-! DEFINITION. The machine's word types (spec/00_scope.md R6): 16-bit data words, 24-bit instruction words and
24-bit full addresses, 40-bit accumulators. Everything that computes on their bits stands in Machine/Bits.lean. -/

namespace Sys2Proof

/-- A data word or an address within a page: 16 bits (R6, R21). -/
abbrev Word := BitVec 16

/-- A full address, page:offset: 24 bits (R6, R100). -/
abbrev Addr := BitVec 24

/-- An instruction word, or the content of a 24-bit location: 24 bits (R140). -/
abbrev Code := BitVec 24

/-- The value of an accumulator, MR or SR: 40 bits (R26). -/
abbrev Acc40 := BitVec 40

end Sys2Proof
end

