-- ==== Sys2Proof/Machine/Bits.lean ====
section
/-! DEFINITION. Bit-level helpers of the machine: writing one bit, sign fill, bit reversal, the sign test of an
accumulator. -/

namespace Sys2Proof.Machine

/-- `X[i] <- b` (R10): bit `i` replaced, the other bits unchanged. -/
def putBit {w : Nat} (v : BitVec w) (i : Nat) (b : Bool) : BitVec w :=
  if b then v ||| BitVec.twoPow w i else v &&& ~~~BitVec.twoPow w i

/-- The word that fills xR2 when xR1 is loaded: its sign repeated (R26, R371). -/
def signFill (v : Word) : Word :=
  if v.msb then 0xFFFF#16 else 0x0000#16

/-- `bitrev16` (R104): bit i of the result is bit 15 − i of the argument. -/
def bitrev16 (v : Word) : Word := v.reverse

/-- The overflow test of an accumulator (R285, R303): bits 39:31 are neither all 0 nor all 1. -/
def accOverflow (r : Acc40) : Bool :=
  r.extractLsb' 31 9 ≠ 0b000000000#9 && r.extractLsb' 31 9 ≠ 0b111111111#9

/-- The number of the lowest set bit among bits 0 to 15, 16 if there is none (R506). -/
def lowestBit (v : Word) : Nat :=
  match (List.range 16).find? v.getLsbD with
  | some n => n
  | none => 16

/-- A word with its lowest-numbered set bit cleared (R459); 0 stays 0. -/
def clearLowest (v : Word) : Word := putBit v (lowestBit v) false

end Sys2Proof.Machine
end

