-- ==== Sys2Proof/Syntax.lean ====
section
/-! DEFINITION. The instructions of the ADSP-219x core as syntax: one constructor per row of spec/opcode_table.json,
in the table's order. The operands of a constructor are the fields of its row, decoded (spec/30_encoding.md R143 to
R151); fields the core ignores (SWCD of NOP, the value of IDLE, the unused XOP of a y function, YREG when Y0 = 1) are
operands too, so that no bit of a word is lost. -/

namespace Sys2Proof

/-- The Z bit (R143): the result register or the feedback register. An ALU function writes AR (result) or
AF (feedback); a multiplier function reads and writes MR (result) or SR (feedback). -/
inductive ResultReg where
  | result | feedback
  deriving DecidableEq, Repr

/-- The ALU functions, AMF 10000 to 11111 in code order (R144): Y, Y + 1, X + Y + C, X + Y, NOT Y, − Y, X − Y + C − 1,
X − Y, Y − 1, Y − X, Y − X + C − 1, NOT X, X AND Y, X OR Y, X XOR Y, ABS X. -/
inductive AluFn where
  | pass | inc | addC | add | notY | neg | subB | sub | dec | rsub | rsubB | notX | and | or | xor | abs
  deriving DecidableEq, Repr

/-- What a multiplier function does with the product (R144): MUL stores it, ADD and SUB accumulate. -/
inductive MacOp where
  | mul | add | sub
  deriving DecidableEq, Repr

/-- The data format options of a multiplier function (R272), in x/y order; RND is signed, signed and rounds. -/
inductive MacFmt where
  | rnd | ss | su | us | uu
  deriving DecidableEq, Repr

/-- The shift functions, SF 0000 to 1111 in code order (R148). -/
inductive ShiftFn where
  | lshiftHi | lshiftHiOr | lshiftLo | lshiftLoOr | ashiftHi | ashiftHiOr | ashiftLo | ashiftLoOr | normHi
  | normHiOr | normLo | normLoOr | expHi | expHix | expLo | expAdj
  deriving DecidableEq, Repr

/-- The ALU x operands, XOP 000 to 111 (R150, ALU column). -/
inductive AluXop where
  | ax0 | ax1 | ar | mr0 | mr1 | mr2 | sr0 | sr1
  deriving DecidableEq, Repr

/-- The multiplier x operands, XOP 000 to 111 (R150, MAC column). -/
inductive MacXop where
  | mx0 | mx1 | ar | mr0 | mr1 | mr2 | sr0 | sr1
  deriving DecidableEq, Repr

/-- The shifter x operands, XOP 000 to 111 (R150, Shift column). -/
inductive ShiftXop where
  | si | sr2 | ar | mr0 | mr1 | mr2 | sr0 | sr1
  deriving DecidableEq, Repr

/-- The ALU y operands, YOP 00 to 11 (R150, ALU column); `zero` supplies the value 0. -/
inductive AluYop where
  | ay0 | ay1 | af | zero
  deriving DecidableEq, Repr

/-- The multiplier y operands, YOP 00 to 11 (R150, MAC column); `zero` supplies the value 0. -/
inductive MacYop where
  | my0 | my1 | sr1 | zero
  deriving DecidableEq, Repr

/-- The y operands DIVS may take, YOP 01 and 10 (R247). -/
inductive DivYop where
  | ay1 | af
  deriving DecidableEq, Repr

/-- The sixteen data registers, register group 0 in code order (R147). -/
inductive Dreg where
  | ax0 | ax1 | mx0 | mx1 | ay0 | ay1 | my0 | my1 | mr2 | sr2 | ar | si | mr1 | sr1 | mr0 | sr0
  deriving DecidableEq, Repr

/-- The G bit (R149): which data address generator. -/
inductive Dag where
  | dag1 | dag2
  deriving DecidableEq, Repr

/-- A two-bit I or M code (R149): register 4·G + slot, so slot 0 of DAG2 is I4, M4, L4, B4. -/
inductive Slot where
  | s0 | s1 | s2 | s3
  deriving DecidableEq, Repr

/-- The three kinds of DAG registers with a register code (R147). -/
inductive DagKind where
  | i | m | l
  deriving DecidableEq, Repr

/-- Register group 1 in code order (R147). -/
inductive Reg1 where
  | i0 | i1 | i2 | i3 | m0 | m1 | m2 | m3 | l0 | l1 | l2 | l3 | imask | irptl | icntl | stacka
  deriving DecidableEq, Repr

/-- Register group 2 in code order (R147); the codes 1100 and 1101 are reserved and have no constructor. -/
inductive Reg2 where
  | i4 | i5 | i6 | i7 | m4 | m5 | m6 | m7 | l4 | l5 | l6 | l7 | cntr | lpstacka
  deriving DecidableEq, Repr

/-- Register group 3 in code order (R147); the codes 1100, 1101 and 1110 are reserved and have no constructor. -/
inductive Reg3 where
  | astat | mstat | sstat | lpstackp | ccode | se | sb | px | dmpg1 | dmpg2 | iopg | ijpg | stackp
  deriving DecidableEq, Repr

/-- A core register by its group and code (R147). -/
inductive Reg where
  | g0 (d : Dreg) | g1 (r : Reg1) | g2 (r : Reg2) | g3 (r : Reg3)
  deriving DecidableEq, Repr

/-- The IREG/MREG field of Type 3 (R151): an index or a modify register of either DAG. -/
inductive DagReg where
  | i (g : Dag) (n : Slot) | m (g : Dag) (n : Slot)
  deriving DecidableEq, Repr

/-- The sixteen conditions, COND 0000 to 1111 in code order (R145). -/
inductive Cond where
  | eq | ne | gt | le | lt | ge | av | notAv | ac | notAc | swcond | notSwcond | mv | notMv | notCe | always
  deriving DecidableEq, Repr

/-- The DM destination of a dual read, DD 00 to 11 (R143). -/
inductive DmDest where
  | ax0 | ax1 | mx0 | mx1
  deriving DecidableEq, Repr

/-- The PM destination of a dual read, PD 00 to 11 (R143). -/
inductive PmDest where
  | ay0 | ay1 | my0 | my1
  deriving DecidableEq, Repr

/-- A two-bit stack field of Type 26 (R178): 00 and 01 do nothing, 10 pushes, 11 pops. -/
inductive StackField where
  | keep0 | keep1 | push | pop
  deriving DecidableEq, Repr

/-- A two-bit mode field of Type 18 (R168): 00 and 01 change nothing, 10 disables, 11 enables. -/
inductive ModeField where
  | keep0 | keep1 | dis | ena
  deriving DecidableEq, Repr

/-- A constant y operand (R146): `neg = false` is 1 shifted left by `n`, `neg = true` its ones complement. -/
structure Const where
  neg : Bool
  n : BitVec 4
  deriving DecidableEq, Repr

/-- An AMF code 00000 to 01111 with its operands (R144): no operation (with the YOP and XOP bits it ignores), or a
multiplier function. -/
inductive MacSel where
  | nop (yx : BitVec 5)
  | mac (op : MacOp) (fmt : MacFmt) (y : MacYop) (x : MacXop)
  deriving DecidableEq, Repr

/-- The compute field of a multifunction instruction (R340): AMF with its YOP and XOP operands. -/
inductive Compute where
  | alu (f : AluFn) (y : AluYop) (x : AluXop)
  | mac (f : MacSel)
  deriving DecidableEq, Repr

/-- The instruction set (R195). Each constructor's comment is its row: index, type, and the rule of its meaning. -/
inductive Instr where
  | aluPassYop (z : ResultReg) (y : AluYop) (x : AluXop) (c : Cond)  -- 0: Type 9 (a) ALU Y, R239
  | aluPassConst (z : ResultReg) (k : Const) (x : AluXop) (c : Cond)  -- 1: Type 9 (b) ALU Y, constant y, R239
  | aluPassReg (z : ResultReg) (y0 : Bool) (x y : Dreg)  -- 2: Type 9a ALU Y, R239
  | aluIncYop (z : ResultReg) (y : AluYop) (x : AluXop) (c : Cond)  -- 3: Type 9 (a) ALU Y + 1, R243
  | aluIncConst (z : ResultReg) (k : Const) (x : AluXop) (c : Cond)  -- 4: Type 9 (b) ALU Y + 1, constant y, R243
  | aluIncReg (z : ResultReg) (y0 : Bool) (x y : Dreg)  -- 5: Type 9a ALU Y + 1, R243
  | aluAddCYop (z : ResultReg) (y : AluYop) (x : AluXop) (c : Cond)  -- 6: Type 9 (a) ALU X + Y + C, R227
  | aluAddCConst (z : ResultReg) (k : Const) (x : AluXop) (c : Cond)  -- 7: Type 9 (b) ALU X + Y + C, constant y, R227
  | aluAddCReg (z : ResultReg) (y0 : Bool) (x y : Dreg)  -- 8: Type 9a ALU X + Y + C, R227
  | aluAddYop (z : ResultReg) (y : AluYop) (x : AluXop) (c : Cond)  -- 9: Type 9 (a) ALU X + Y, R226
  | aluAddConst (z : ResultReg) (k : Const) (x : AluXop) (c : Cond)  -- 10: Type 9 (b) ALU X + Y, constant y, R226
  | aluAddReg (z : ResultReg) (y0 : Bool) (x y : Dreg)  -- 11: Type 9a ALU X + Y, R226
  | aluNotYYop (z : ResultReg) (y : AluYop) (x : AluXop) (c : Cond)  -- 12: Type 9 (a) ALU NOT Y, R241
  | aluNotYConst (z : ResultReg) (k : Const) (x : AluXop) (c : Cond)  -- 13: Type 9 (b) ALU NOT Y, constant y, R241
  | aluNotYReg (z : ResultReg) (y0 : Bool) (x y : Dreg)  -- 14: Type 9a ALU NOT Y, R241
  | aluNegYop (z : ResultReg) (y : AluYop) (x : AluXop) (c : Cond)  -- 15: Type 9 (a) ALU -Y, R245
  | aluNegConst (z : ResultReg) (k : Const) (x : AluXop) (c : Cond)  -- 16: Type 9 (b) ALU -Y, constant y, R245
  | aluNegReg (z : ResultReg) (y0 : Bool) (x y : Dreg)  -- 17: Type 9a ALU -Y, R245
  | aluSubBYop (z : ResultReg) (y : AluYop) (x : AluXop) (c : Cond)  -- 18: Type 9 (a) ALU X - Y + C - 1, R229
  -- 19: Type 9 (b) ALU X - Y + C - 1, constant y, R229
  | aluSubBConst (z : ResultReg) (k : Const) (x : AluXop) (c : Cond)
  | aluSubBReg (z : ResultReg) (y0 : Bool) (x y : Dreg)  -- 20: Type 9a ALU X - Y + C - 1, R229
  | aluSubYop (z : ResultReg) (y : AluYop) (x : AluXop) (c : Cond)  -- 21: Type 9 (a) ALU X - Y, R228
  | aluSubConst (z : ResultReg) (k : Const) (x : AluXop) (c : Cond)  -- 22: Type 9 (b) ALU X - Y, constant y, R228
  | aluSubReg (z : ResultReg) (y0 : Bool) (x y : Dreg)  -- 23: Type 9a ALU X - Y, R228
  | aluDecYop (z : ResultReg) (y : AluYop) (x : AluXop) (c : Cond)  -- 24: Type 9 (a) ALU Y - 1, R244
  | aluDecConst (z : ResultReg) (k : Const) (x : AluXop) (c : Cond)  -- 25: Type 9 (b) ALU Y - 1, constant y, R244
  | aluDecReg (z : ResultReg) (y0 : Bool) (x y : Dreg)  -- 26: Type 9a ALU Y - 1, R244
  | aluRsubYop (z : ResultReg) (y : AluYop) (x : AluXop) (c : Cond)  -- 27: Type 9 (a) ALU Y - X, R230
  | aluRsubConst (z : ResultReg) (k : Const) (x : AluXop) (c : Cond)  -- 28: Type 9 (b) ALU Y - X, constant y, R230
  | aluRsubReg (z : ResultReg) (y0 : Bool) (x y : Dreg)  -- 29: Type 9a ALU Y - X, R230
  | aluRsubBYop (z : ResultReg) (y : AluYop) (x : AluXop) (c : Cond)  -- 30: Type 9 (a) ALU Y - X + C - 1, R231
  -- 31: Type 9 (b) ALU Y - X + C - 1, constant y, R231
  | aluRsubBConst (z : ResultReg) (k : Const) (x : AluXop) (c : Cond)
  | aluRsubBReg (z : ResultReg) (y0 : Bool) (x y : Dreg)  -- 32: Type 9a ALU Y - X + C - 1, R231
  | aluNotXYop (z : ResultReg) (y : AluYop) (x : AluXop) (c : Cond)  -- 33: Type 9 (a) ALU NOT X, R240
  | aluNotXConst (z : ResultReg) (k : Const) (x : AluXop) (c : Cond)  -- 34: Type 9 (b) ALU NOT X, constant y, R240
  | aluNotXReg (z : ResultReg) (y0 : Bool) (x y : Dreg)  -- 35: Type 9a ALU NOT X, R240
  | aluAndYop (z : ResultReg) (y : AluYop) (x : AluXop) (c : Cond)  -- 36: Type 9 (a) ALU X AND Y, R232
  | aluAndConst (z : ResultReg) (k : Const) (x : AluXop) (c : Cond)  -- 37: Type 9 (b) ALU X AND Y, constant y, R232
  | aluAndReg (z : ResultReg) (y0 : Bool) (x y : Dreg)  -- 38: Type 9a ALU X AND Y, R232
  | aluOrYop (z : ResultReg) (y : AluYop) (x : AluXop) (c : Cond)  -- 39: Type 9 (a) ALU X OR Y, R233
  | aluOrConst (z : ResultReg) (k : Const) (x : AluXop) (c : Cond)  -- 40: Type 9 (b) ALU X OR Y, constant y, R233
  | aluOrReg (z : ResultReg) (y0 : Bool) (x y : Dreg)  -- 41: Type 9a ALU X OR Y, R233
  | aluXorYop (z : ResultReg) (y : AluYop) (x : AluXop) (c : Cond)  -- 42: Type 9 (a) ALU X XOR Y, R234
  | aluXorConst (z : ResultReg) (k : Const) (x : AluXop) (c : Cond)  -- 43: Type 9 (b) ALU X XOR Y, constant y, R234
  | aluXorReg (z : ResultReg) (y0 : Bool) (x y : Dreg)  -- 44: Type 9a ALU X XOR Y, R234
  | aluAbsYop (z : ResultReg) (y : AluYop) (x : AluXop) (c : Cond)  -- 45: Type 9 (a) ALU ABS X, R242
  | aluAbsConst (z : ResultReg) (k : Const) (x : AluXop) (c : Cond)  -- 46: Type 9 (b) ALU ABS X, constant y, R242
  | aluAbsReg (z : ResultReg) (y0 : Bool) (x y : Dreg)  -- 47: Type 9a ALU ABS X, R242
  | tstBit (z : ResultReg) (n : BitVec 4) (x : AluXop) (c : Cond)  -- 48: Type 9 (b) alias, R235
  | setBit (z : ResultReg) (n : BitVec 4) (x : AluXop) (c : Cond)  -- 49: Type 9 (b) alias, R236
  | clrBit (z : ResultReg) (n : BitVec 4) (x : AluXop) (c : Cond)  -- 50: Type 9 (b) alias, R237
  | tglBit (z : ResultReg) (n : BitVec 4) (x : AluXop) (c : Cond)  -- 51: Type 9 (b) alias, R238
  | passZero (z : ResultReg) (x : AluXop) (c : Cond)  -- 52: Type 9 (c) alias, R239
  | passOne (z : ResultReg) (x : AluXop) (c : Cond)  -- 53: Type 9 (c) alias, R239
  | passMinusOne (z : ResultReg) (x : AluXop) (c : Cond)  -- 54: Type 9 (c) alias, R239
  | passXop (z : ResultReg) (x : AluXop) (c : Cond)  -- 55: Type 9 (c) alias, R239
  | negXop (z : ResultReg) (x : AluXop) (c : Cond)  -- 56: Type 9 (c) alias, R230
  | macMulRndYop (z : ResultReg) (y : MacYop) (x : MacXop) (c : Cond)  -- 57: Type 9 (a) MAC X * Y (RND), R277
  | macMulRndSq (z : ResultReg) (x : MacXop) (c : Cond)  -- 58: Type 9 (d) MAC squaring X * Y (RND), R282
  | macMulRndReg (z : ResultReg) (y0 : Bool) (x y : Dreg)  -- 59: Type 9a MAC X * Y (RND), R277
  | macAddRndYop (z : ResultReg) (y : MacYop) (x : MacXop) (c : Cond)  -- 60: Type 9 (a) MAC MR + X * Y (RND), R279
  | macAddRndSq (z : ResultReg) (x : MacXop) (c : Cond)  -- 61: Type 9 (d) MAC squaring MR + X * Y (RND), R282
  | macAddRndReg (z : ResultReg) (y0 : Bool) (x y : Dreg)  -- 62: Type 9a MAC MR + X * Y (RND), R279
  | macSubRndYop (z : ResultReg) (y : MacYop) (x : MacXop) (c : Cond)  -- 63: Type 9 (a) MAC MR - X * Y (RND), R281
  | macSubRndSq (z : ResultReg) (x : MacXop) (c : Cond)  -- 64: Type 9 (d) MAC squaring MR - X * Y (RND), R282
  | macSubRndReg (z : ResultReg) (y0 : Bool) (x y : Dreg)  -- 65: Type 9a MAC MR - X * Y (RND), R281
  | macMulSsYop (z : ResultReg) (y : MacYop) (x : MacXop) (c : Cond)  -- 66: Type 9 (a) MAC X * Y (SS), R276
  | macMulSsSq (z : ResultReg) (x : MacXop) (c : Cond)  -- 67: Type 9 (d) MAC squaring X * Y (SS), R282
  | macMulSsReg (z : ResultReg) (y0 : Bool) (x y : Dreg)  -- 68: Type 9a MAC X * Y (SS), R276
  | macMulSuYop (z : ResultReg) (y : MacYop) (x : MacXop) (c : Cond)  -- 69: Type 9 (a) MAC X * Y (SU), R276
  | macMulSuSq (z : ResultReg) (x : MacXop) (c : Cond)  -- 70: Type 9 (d) MAC squaring X * Y (SU), R282
  | macMulSuReg (z : ResultReg) (y0 : Bool) (x y : Dreg)  -- 71: Type 9a MAC X * Y (SU), R276
  | macMulUsYop (z : ResultReg) (y : MacYop) (x : MacXop) (c : Cond)  -- 72: Type 9 (a) MAC X * Y (US), R276
  | macMulUsSq (z : ResultReg) (x : MacXop) (c : Cond)  -- 73: Type 9 (d) MAC squaring X * Y (US), R282
  | macMulUsReg (z : ResultReg) (y0 : Bool) (x y : Dreg)  -- 74: Type 9a MAC X * Y (US), R276
  | macMulUuYop (z : ResultReg) (y : MacYop) (x : MacXop) (c : Cond)  -- 75: Type 9 (a) MAC X * Y (UU), R276
  | macMulUuSq (z : ResultReg) (x : MacXop) (c : Cond)  -- 76: Type 9 (d) MAC squaring X * Y (UU), R282
  | macMulUuReg (z : ResultReg) (y0 : Bool) (x y : Dreg)  -- 77: Type 9a MAC X * Y (UU), R276
  | macAddSsYop (z : ResultReg) (y : MacYop) (x : MacXop) (c : Cond)  -- 78: Type 9 (a) MAC MR + X * Y (SS), R278
  | macAddSsSq (z : ResultReg) (x : MacXop) (c : Cond)  -- 79: Type 9 (d) MAC squaring MR + X * Y (SS), R282
  | macAddSsReg (z : ResultReg) (y0 : Bool) (x y : Dreg)  -- 80: Type 9a MAC MR + X * Y (SS), R278
  | macAddSuYop (z : ResultReg) (y : MacYop) (x : MacXop) (c : Cond)  -- 81: Type 9 (a) MAC MR + X * Y (SU), R278
  | macAddSuSq (z : ResultReg) (x : MacXop) (c : Cond)  -- 82: Type 9 (d) MAC squaring MR + X * Y (SU), R282
  | macAddSuReg (z : ResultReg) (y0 : Bool) (x y : Dreg)  -- 83: Type 9a MAC MR + X * Y (SU), R278
  | macAddUsYop (z : ResultReg) (y : MacYop) (x : MacXop) (c : Cond)  -- 84: Type 9 (a) MAC MR + X * Y (US), R278
  | macAddUsSq (z : ResultReg) (x : MacXop) (c : Cond)  -- 85: Type 9 (d) MAC squaring MR + X * Y (US), R282
  | macAddUsReg (z : ResultReg) (y0 : Bool) (x y : Dreg)  -- 86: Type 9a MAC MR + X * Y (US), R278
  | macAddUuYop (z : ResultReg) (y : MacYop) (x : MacXop) (c : Cond)  -- 87: Type 9 (a) MAC MR + X * Y (UU), R278
  | macAddUuSq (z : ResultReg) (x : MacXop) (c : Cond)  -- 88: Type 9 (d) MAC squaring MR + X * Y (UU), R282
  | macAddUuReg (z : ResultReg) (y0 : Bool) (x y : Dreg)  -- 89: Type 9a MAC MR + X * Y (UU), R278
  | macSubSsYop (z : ResultReg) (y : MacYop) (x : MacXop) (c : Cond)  -- 90: Type 9 (a) MAC MR - X * Y (SS), R280
  | macSubSsSq (z : ResultReg) (x : MacXop) (c : Cond)  -- 91: Type 9 (d) MAC squaring MR - X * Y (SS), R282
  | macSubSsReg (z : ResultReg) (y0 : Bool) (x y : Dreg)  -- 92: Type 9a MAC MR - X * Y (SS), R280
  | macSubSuYop (z : ResultReg) (y : MacYop) (x : MacXop) (c : Cond)  -- 93: Type 9 (a) MAC MR - X * Y (SU), R280
  | macSubSuSq (z : ResultReg) (x : MacXop) (c : Cond)  -- 94: Type 9 (d) MAC squaring MR - X * Y (SU), R282
  | macSubSuReg (z : ResultReg) (y0 : Bool) (x y : Dreg)  -- 95: Type 9a MAC MR - X * Y (SU), R280
  | macSubUsYop (z : ResultReg) (y : MacYop) (x : MacXop) (c : Cond)  -- 96: Type 9 (a) MAC MR - X * Y (US), R280
  | macSubUsSq (z : ResultReg) (x : MacXop) (c : Cond)  -- 97: Type 9 (d) MAC squaring MR - X * Y (US), R282
  | macSubUsReg (z : ResultReg) (y0 : Bool) (x y : Dreg)  -- 98: Type 9a MAC MR - X * Y (US), R280
  | macSubUuYop (z : ResultReg) (y : MacYop) (x : MacXop) (c : Cond)  -- 99: Type 9 (a) MAC MR - X * Y (UU), R280
  | macSubUuSq (z : ResultReg) (x : MacXop) (c : Cond)  -- 100: Type 9 (d) MAC squaring MR - X * Y (UU), R282
  | macSubUuReg (z : ResultReg) (y0 : Bool) (x y : Dreg)  -- 101: Type 9a MAC MR - X * Y (UU), R280
  | clearAcc (z : ResultReg) (x : MacXop) (c : Cond)  -- 102: Type 9 (c) alias, R283
  | roundAcc (z : ResultReg) (x : MacXop) (c : Cond)  -- 103: Type 9 (c) alias, R284
  | condNop (zyx : BitVec 6) (c : Cond)  -- 104: Type 9 (a) no operation, R468
  | regNop (z : ResultReg) (y0 : Bool) (x y : Dreg)  -- 105: Type 9a no operation, R468
  | divs (y : DivYop) (x : AluXop)  -- 106: Type 24, R247
  | divq (x : AluXop)  -- 107: Type 23, R248
  | satMr  -- 108: Type 25, R287
  | satSr  -- 109: Type 25, R287
  | lshiftHi (x : Dreg) (c : Cond)  -- 110: Type 16, R307
  | lshiftHiOr (x : Dreg) (c : Cond)  -- 111: Type 16, R307
  | lshiftLo (x : Dreg) (c : Cond)  -- 112: Type 16, R307
  | lshiftLoOr (x : Dreg) (c : Cond)  -- 113: Type 16, R307
  | ashiftHi (x : Dreg) (c : Cond)  -- 114: Type 16, R305
  | ashiftHiOr (x : Dreg) (c : Cond)  -- 115: Type 16, R305
  | ashiftLo (x : Dreg) (c : Cond)  -- 116: Type 16, R305
  | ashiftLoOr (x : Dreg) (c : Cond)  -- 117: Type 16, R305
  | normHi (x : Dreg) (c : Cond)  -- 118: Type 16, R309
  | normHiOr (x : Dreg) (c : Cond)  -- 119: Type 16, R309
  | normLo (x : Dreg) (c : Cond)  -- 120: Type 16, R309
  | normLoOr (x : Dreg) (c : Cond)  -- 121: Type 16, R309
  | expHi (x : Dreg) (c : Cond)  -- 122: Type 16, R311
  | expHix (x : Dreg) (c : Cond)  -- 123: Type 16, R311
  | expLo (x : Dreg) (c : Cond)  -- 124: Type 16, R311
  | expAdj (x : Dreg) (c : Cond)  -- 125: Type 16, R312
  | lshiftHiImm (x : Dreg) (e : BitVec 8)  -- 126: Type 15, R308
  | lshiftHiOrImm (x : Dreg) (e : BitVec 8)  -- 127: Type 15, R308
  | lshiftLoImm (x : Dreg) (e : BitVec 8)  -- 128: Type 15, R308
  | lshiftLoOrImm (x : Dreg) (e : BitVec 8)  -- 129: Type 15, R308
  | ashiftHiImm (x : Dreg) (e : BitVec 8)  -- 130: Type 15, R306
  | ashiftHiOrImm (x : Dreg) (e : BitVec 8)  -- 131: Type 15, R306
  | ashiftLoImm (x : Dreg) (e : BitVec 8)  -- 132: Type 15, R306
  | ashiftLoOrImm (x : Dreg) (e : BitVec 8)  -- 133: Type 15, R306
  | dualCompute (f : Compute) (pd : PmDest) (dd : DmDest) (pmi pmm dmi dmm : Slot)  -- 134: Type 1, R342
  -- 135: Type 1, AMF = 00000, R343
  | dualRead (unused : BitVec 5) (pd : PmDest) (dd : DmDest) (pmi pmm dmi dmm : Slot)
  | computeRead (g : Dag) (z : ResultReg) (f : Compute) (d : Dreg) (i m : Slot)  -- 136: Type 4, D = 0, R344
  | computeWrite (g : Dag) (z : ResultReg) (f : Compute) (d : Dreg) (i m : Slot)  -- 137: Type 4, D = 1, R345
  | computeMove (z : ResultReg) (f : Compute) (d src : Dreg)  -- 138: Type 8, R348
  | noneAlu (z : ResultReg) (f : AluFn) (y : AluYop) (x : AluXop)  -- 139: Type 8, bits 7:0 = 0xAA, ALU AMF, R249
  | noneMac (z : ResultReg) (f : MacSel)  -- 140: Type 8, bits 7:0 = 0xAA, MAC AMF, R288
  | shiftRead (g : Dag) (f : ShiftFn) (x : ShiftXop) (d : Dreg) (i m : Slot)  -- 141: Type 12, D = 0, R346
  | shiftWrite (g : Dag) (f : ShiftFn) (x : ShiftXop) (d : Dreg) (i m : Slot)  -- 142: Type 12, D = 1, R347
  | shiftMove (f : ShiftFn) (x d src : Dreg)  -- 143: Type 14, R349
  | moveReg (d src : Reg)  -- 144: Type 17, R372
  | loadDagDirect (a : BitVec 16) (r : DagReg)  -- 145: Type 3, IREG/MREG, D = 0, R374
  | storeDagDirect (a : BitVec 16) (r : DagReg)  -- 146: Type 3, IREG/MREG, D = 1, R374
  | loadDregDirect (a : BitVec 16) (d : Dreg)  -- 147: Type 3, DREG, D = 0, R374
  | storeDregDirect (a : BitVec 16) (d : Dreg)  -- 148: Type 3, DREG, D = 1, R374
  | loadDregImm (v : BitVec 16) (d : Dreg)  -- 149: Type 6, R376
  | loadReg1Imm (v : BitVec 16) (r : Reg1)  -- 150: Type 7, R377
  | loadReg2Imm (v : BitVec 16) (r : Reg2)  -- 151: Type 7a, R377
  | loadReg3Imm (v : BitVec 12) (r : Reg3)  -- 152: Type 33, R377
  | dmReadPost (g : Dag) (r : Reg) (i m : Slot)  -- 153: Type 32, MS = 0, U = 1, D = 0, R379
  | dmWritePost (g : Dag) (r : Reg) (i m : Slot)  -- 154: Type 32, MS = 0, U = 1, D = 1, R380
  | dmReadPre (g : Dag) (r : Reg) (i m : Slot)  -- 155: Type 32, MS = 0, U = 0, D = 0, R381
  | dmWritePre (g : Dag) (r : Reg) (i m : Slot)  -- 156: Type 32, MS = 0, U = 0, D = 1, R381
  | pmReadPost (g : Dag) (r : Reg) (i m : Slot)  -- 157: Type 32, MS = 1, U = 1, D = 0, R382
  | pmWritePost (g : Dag) (r : Reg) (i m : Slot)  -- 158: Type 32, MS = 1, U = 1, D = 1, R383
  | pmReadPre (g : Dag) (r : Reg) (i m : Slot)  -- 159: Type 32, MS = 1, U = 0, D = 0, R384
  | pmWritePre (g : Dag) (r : Reg) (i m : Slot)  -- 160: Type 32, MS = 1, U = 0, D = 1, R384
  | dagStorePost (g grp : Dag) (k : DagKind) (j i m : Slot)  -- 161: Type 32a, U = 1, R385
  | dagStorePre (g grp : Dag) (k : DagKind) (j i m : Slot)  -- 162: Type 32a, U = 0, R385
  | immReadPost (g : Dag) (d : Dreg) (n : BitVec 8) (i : Slot)  -- 163: Type 29, U = 1, D = 0, R386
  | immWritePost (g : Dag) (d : Dreg) (n : BitVec 8) (i : Slot)  -- 164: Type 29, U = 1, D = 1, R386
  | immReadPre (g : Dag) (d : Dreg) (n : BitVec 8) (i : Slot)  -- 165: Type 29, U = 0, D = 0, R387
  | immWritePre (g : Dag) (d : Dreg) (n : BitVec 8) (i : Slot)  -- 166: Type 29, U = 0, D = 1, R387
  | storeImm16 (g : Dag) (i m : Slot) (v : BitVec 16)  -- 167: Type 22 (two words), R388
  | storeImm24 (g : Dag) (i m : Slot) (v : BitVec 24)  -- 168: Type 22a (two words), R389
  | ioRead (a : BitVec 10) (d : Dreg)  -- 169: Type 34, D = 0, R390
  | ioWrite (a : BitVec 10) (d : Dreg)  -- 170: Type 34, D = 1, R390
  | sysRead (a : BitVec 8) (d : Dreg)  -- 171: Type 35, D = 0, R391
  | sysWrite (a : BitVec 8) (d : Dreg)  -- 172: Type 35, D = 1, R391
  | modify (g : Dag) (i m : Slot)  -- 173: Type 21, R392
  | modifyImm (g : Dag) (n : BitVec 8) (i : Slot)  -- 174: Type 21a, R393
  | doUntilCe (off : BitVec 12)  -- 175: Type 11, TERM = 1110, R450
  | doForever (off : BitVec 12)  -- 176: Type 11, TERM = 1111, R450
  | jumpRel13 (db : Bool) (off : BitVec 13) (c : Cond)  -- 177: Type 10, R452
  | jumpRel16 (db : Bool) (off : BitVec 16)  -- 178: Type 10a, S = 0, R454
  | callRel16 (db : Bool) (off : BitVec 16)  -- 179: Type 10a, S = 1, R453
  | longJump (a : BitVec 24) (c : Cond)  -- 180: Type 36, S = 0 (two words), R456
  | longCall (a : BitVec 24) (c : Cond)  -- 181: Type 36, S = 1 (two words), R455
  | jumpInd (db : Bool) (g : Dag) (c : Cond) (i : Slot)  -- 182: Type 19, S = 0, R458
  | callInd (db : Bool) (g : Dag) (c : Cond) (i : Slot)  -- 183: Type 19, S = 1, R457
  | rts (db : Bool) (c : Cond)  -- 184: Type 20, T = 0, R460
  | rti (db ss : Bool) (c : Cond)  -- 185: Type 20, T = 1, R459
  | stackControl (flush : Bool) (pc lp sts : StackField)  -- 186: Type 26 (general form), R463
  | pushPc  -- 187: Type 26, R461
  | popPc  -- 188: Type 26, R462
  | pushLoop  -- 189: Type 26, R461
  | popLoop  -- 190: Type 26, R462
  | pushSts  -- 191: Type 26, R461
  | popSts  -- 192: Type 26, R462
  | flushCache  -- 193: Type 26, CF = 1, R465
  | setInt (n : BitVec 4)  -- 194: Type 37, C = 0, R466
  | clrInt (n : BitVec 4)  -- 195: Type 37, C = 1, R467
  | nop (swcd : BitVec 4)  -- 196: Type 30, R468
  | idle (v : BitVec 4)  -- 197: Type 31, R469
  | modeControl (ti mm sat ol br sr sd int : ModeField)  -- 198: Type 18, R470
  deriving DecidableEq, Repr

end Sys2Proof
end

