-- ==== Sys2Proof/Config.lean ====
section
/-! DEFINITION. The free values: what the spec leaves undetermined while the machine goes on (`any value`,
spec/00_scope.md R12, spec/93_implementation_defined.md section 2.2, and the host functions IoRead and SysRegRead of
section 1). Every such value is `Config.free` or `Config.pick`, two constants without a body, applied to the model's
tick (a counter the step advances) and to the `Site` of the use; so a proof can know nothing of it, and two uses are
unrelated. -/

namespace Sys2Proof

/-- For which part of an instruction a data register is named. Inside an effect-latency window of MSTAT.SEC_REG each
use selects its bank by itself (R560: "each use may see either"). -/
inductive Role where
  /-- the x operand, or the shifter input -/
  | x
  /-- the y operand, or the upper dividend word of a divide primitive -/
  | y
  /-- the accumulator read by a multiplier function, or SR read for SR OR -/
  | acc
  /-- the result register -/
  | result
  /-- SE read as shift code, or SB read by EXPADJ -/
  | code
  /-- AY0 read by a divide primitive -/
  | divLow
  /-- AY0 written by a divide primitive -/
  | divLowOut
  /-- the register a move or a store reads -/
  | moveSource
  /-- the register a move or a load writes (of a dual read: the DM one) -/
  | moveDest
  /-- the register the PM half of a dual read loads -/
  | pmDest
  deriving DecidableEq, Repr

/-- For which part of an instruction a DAG register is named (R34, as `Role`). -/
inductive DagRole where
  | index | modify | length | base | update | moveSource | moveDest
  deriving DecidableEq, Repr

/-- Where ASTAT acts (R560): which use of an effective ASTAT value. -/
inductive AstatUse where
  | condition | carryIn | quotient | overflowLatch | exponentOverflow | normCarry | exponentSign
  deriving DecidableEq, Repr

/-- Where ICNTL acts (R560). -/
inductive IcntlUse where
  | enable (n : Nat) | nesting (n : Nat) | pushLevel | popLevel | biasedRound
  deriving DecidableEq, Repr

/-- The places where a free value is used; the V numbers are spec/93_implementation_defined.md's. -/
inductive Site where
  /-- V2: the value popped from an empty PC stack -/
  | emptyPcStack
  /-- V2: ASTAT and MSTAT popped from an empty status stack -/
  | emptyStatusAstat | emptyStatusMstat
  /-- V2: the fields popped from empty loop stacks -/
  | emptyLoopBegin | emptyLoopEnd | emptyLoopForever | emptyLoopCount
  /-- V3: a data register written by both parts of a multifunction instruction -/
  | clash (d : Dreg)
  /-- V4: SR2 moved or stored by an instruction that also writes SR -/
  | sr2Source
  /-- V5: a use inside an effect-latency window -/
  | astat (u : AstatUse) | ccode | cntr | icntl (u : IcntlUse) | imask (n : Nat)
  | dataBank (r : Role) | dagBank (g : Dag) (r : DagRole) | bitReverse | saturate | macMode
  /-- V6: whether enabling PCSTKE at a low or high level latches the stack interrupt -/
  | levelRequest
  /-- V7: an instruction word fetched from a location written since the last cache flush -/
  | fetch (a : Addr)
  /-- V8: a read of an address with no memory, over the DM bus or the PM bus -/
  | noMemoryDm (a : Addr) | noMemoryPm (a : Addr)
  /-- V9: SSTAT read directly after a stack operation -/
  | sstat
  /-- P6: what the I/O space answers -/
  | io (a : BitVec 18)
  /-- P7: what a system control location other than B0 to B7 answers -/
  | sys (a : BitVec 8)
  deriving DecidableEq, Repr

/-- The free value of a width at a tick and a site. No body: any value (R12). -/
opaque Config.free (w tick : Nat) (site : Site) : BitVec w

/-- Which of several candidate values a use sees, at a tick and a site. No body: any of them (R560, R123). -/
opaque Config.pick (tick : Nat) (site : Site) : Nat

end Sys2Proof
end

