-- ==== Sys2Proof/WellFormed.lean ====
section
/-! DEFINITION. Which instruction terms the machine runs: the operand restrictions the syntax types do not already
make (spec/30_encoding.md R190, spec/93_implementation_defined.md U8, U9, U12). A decoded instruction is well formed
and the meanings refuse a term that is not. -/

namespace Sys2Proof

/-- SSTAT is read-only: no instruction may name it as a destination (R371, U8, decision D22). -/
def Reg.writable : Reg → Bool
  | .g3 .sstat => false
  | _ => true

/-- Type 32a (R385, U9, decision D23): the stored register `grp k j` belongs to the DAG of the index register `g i`,
and is not that index register. -/
def dagStoreAllowed (g grp : Dag) (k : DagKind) (j i : Slot) : Bool :=
  grp = g && !(k = .i && j = i)

/-- The operand restrictions of every instruction. The forms not listed have none: every term of them is some
assembly line of the manual. -/
def Instr.wellFormed : Instr → Bool
  | .moveReg d _ => d.writable
  | .loadReg3Imm _ r => (Reg.g3 r).writable
  | .dmReadPost _ r _ _ => r.writable
  | .dmReadPre _ r _ _ => r.writable
  | .pmReadPost _ r _ _ => r.writable
  | .pmReadPre _ r _ _ => r.writable
  | .dagStorePost g grp k j i _ => dagStoreAllowed g grp k j i
  | .dagStorePre g grp k j i _ => dagStoreAllowed g grp k j i
  | .doUntilCe off => off ≠ 0
  | .doForever off => off ≠ 0
  | _ => true

end Sys2Proof
end

