-- ==== Sys2Proof/Decode.lean ====
section
/-! DEFINITION. The decoder and the encoder (spec/30_encoding.md). `decode` reads an instruction from a list of
24-bit words, total, and rejects by name; `encode` writes the words of an instruction, blank and reserved bits 0
(R189, decision D7). Where two rows of spec/opcode_table.json match one word (a second spelling such as SETBIT for OR
with a constant) the decoder answers the most specific row; `specialise` is that choice, as a map on instructions. -/

namespace Sys2Proof

/-! ## Field codes (R143 to R151) -/

/-- A one-bit field. -/
def bit (b : Bool) : BitVec 1 := if b then 1#1 else 0#1

def ResultReg.code : ResultReg → BitVec 1
  | .result => 0#1 | .feedback => 1#1

def ResultReg.ofCode (c : BitVec 1) : ResultReg :=
  match c.toNat with
  | 0 => .result | _ => .feedback

def AluFn.code : AluFn → BitVec 4
  | .pass => 0#4 | .inc => 1#4 | .addC => 2#4 | .add => 3#4 | .notY => 4#4 | .neg => 5#4 | .subB => 6#4
  | .sub => 7#4 | .dec => 8#4 | .rsub => 9#4 | .rsubB => 10#4 | .notX => 11#4 | .and => 12#4 | .or => 13#4
  | .xor => 14#4 | .abs => 15#4

def AluFn.ofCode (c : BitVec 4) : AluFn :=
  match c.toNat with
  | 0 => .pass | 1 => .inc | 2 => .addC | 3 => .add | 4 => .notY | 5 => .neg | 6 => .subB | 7 => .sub
  | 8 => .dec | 9 => .rsub | 10 => .rsubB | 11 => .notX | 12 => .and | 13 => .or | 14 => .xor | _ => .abs

def ShiftFn.code : ShiftFn → BitVec 4
  | .lshiftHi => 0#4 | .lshiftHiOr => 1#4 | .lshiftLo => 2#4 | .lshiftLoOr => 3#4 | .ashiftHi => 4#4
  | .ashiftHiOr => 5#4 | .ashiftLo => 6#4 | .ashiftLoOr => 7#4 | .normHi => 8#4 | .normHiOr => 9#4
  | .normLo => 10#4 | .normLoOr => 11#4 | .expHi => 12#4 | .expHix => 13#4 | .expLo => 14#4 | .expAdj => 15#4

def ShiftFn.ofCode (c : BitVec 4) : ShiftFn :=
  match c.toNat with
  | 0 => .lshiftHi | 1 => .lshiftHiOr | 2 => .lshiftLo | 3 => .lshiftLoOr | 4 => .ashiftHi | 5 => .ashiftHiOr
  | 6 => .ashiftLo | 7 => .ashiftLoOr | 8 => .normHi | 9 => .normHiOr | 10 => .normLo | 11 => .normLoOr
  | 12 => .expHi | 13 => .expHix | 14 => .expLo | _ => .expAdj

def AluXop.code : AluXop → BitVec 3
  | .ax0 => 0#3 | .ax1 => 1#3 | .ar => 2#3 | .mr0 => 3#3 | .mr1 => 4#3 | .mr2 => 5#3 | .sr0 => 6#3
  | .sr1 => 7#3

def AluXop.ofCode (c : BitVec 3) : AluXop :=
  match c.toNat with
  | 0 => .ax0 | 1 => .ax1 | 2 => .ar | 3 => .mr0 | 4 => .mr1 | 5 => .mr2 | 6 => .sr0 | _ => .sr1

def MacXop.code : MacXop → BitVec 3
  | .mx0 => 0#3 | .mx1 => 1#3 | .ar => 2#3 | .mr0 => 3#3 | .mr1 => 4#3 | .mr2 => 5#3 | .sr0 => 6#3
  | .sr1 => 7#3

def MacXop.ofCode (c : BitVec 3) : MacXop :=
  match c.toNat with
  | 0 => .mx0 | 1 => .mx1 | 2 => .ar | 3 => .mr0 | 4 => .mr1 | 5 => .mr2 | 6 => .sr0 | _ => .sr1

def ShiftXop.code : ShiftXop → BitVec 3
  | .si => 0#3 | .sr2 => 1#3 | .ar => 2#3 | .mr0 => 3#3 | .mr1 => 4#3 | .mr2 => 5#3 | .sr0 => 6#3 | .sr1 => 7#3

def ShiftXop.ofCode (c : BitVec 3) : ShiftXop :=
  match c.toNat with
  | 0 => .si | 1 => .sr2 | 2 => .ar | 3 => .mr0 | 4 => .mr1 | 5 => .mr2 | 6 => .sr0 | _ => .sr1

def AluYop.code : AluYop → BitVec 2
  | .ay0 => 0#2 | .ay1 => 1#2 | .af => 2#2 | .zero => 3#2

def AluYop.ofCode (c : BitVec 2) : AluYop :=
  match c.toNat with
  | 0 => .ay0 | 1 => .ay1 | 2 => .af | _ => .zero

def MacYop.code : MacYop → BitVec 2
  | .my0 => 0#2 | .my1 => 1#2 | .sr1 => 2#2 | .zero => 3#2

def MacYop.ofCode (c : BitVec 2) : MacYop :=
  match c.toNat with
  | 0 => .my0 | 1 => .my1 | 2 => .sr1 | _ => .zero

def DivYop.code : DivYop → BitVec 2
  | .ay1 => 1#2 | .af => 2#2

def DivYop.ofCode (c : BitVec 2) : Option DivYop :=
  match c.toNat with
  | 1 => some .ay1 | 2 => some .af | _ => none

def Dreg.code : Dreg → BitVec 4
  | .ax0 => 0#4 | .ax1 => 1#4 | .mx0 => 2#4 | .mx1 => 3#4 | .ay0 => 4#4 | .ay1 => 5#4 | .my0 => 6#4
  | .my1 => 7#4 | .mr2 => 8#4 | .sr2 => 9#4 | .ar => 10#4 | .si => 11#4 | .mr1 => 12#4 | .sr1 => 13#4
  | .mr0 => 14#4 | .sr0 => 15#4

def Dreg.ofCode (c : BitVec 4) : Dreg :=
  match c.toNat with
  | 0 => .ax0 | 1 => .ax1 | 2 => .mx0 | 3 => .mx1 | 4 => .ay0 | 5 => .ay1 | 6 => .my0 | 7 => .my1 | 8 => .mr2
  | 9 => .sr2 | 10 => .ar | 11 => .si | 12 => .mr1 | 13 => .sr1 | 14 => .mr0 | _ => .sr0

def Dag.code : Dag → BitVec 1
  | .dag1 => 0#1 | .dag2 => 1#1

def Dag.ofCode (c : BitVec 1) : Dag :=
  match c.toNat with
  | 0 => .dag1 | _ => .dag2

def Slot.code : Slot → BitVec 2
  | .s0 => 0#2 | .s1 => 1#2 | .s2 => 2#2 | .s3 => 3#2

def Slot.ofCode (c : BitVec 2) : Slot :=
  match c.toNat with
  | 0 => .s0 | 1 => .s1 | 2 => .s2 | _ => .s3

def DagKind.code : DagKind → BitVec 2
  | .i => 0#2 | .m => 1#2 | .l => 2#2

def DagKind.ofCode (c : BitVec 2) : Option DagKind :=
  match c.toNat with
  | 0 => some .i | 1 => some .m | 2 => some .l | _ => none

def Reg1.code : Reg1 → BitVec 4
  | .i0 => 0#4 | .i1 => 1#4 | .i2 => 2#4 | .i3 => 3#4 | .m0 => 4#4 | .m1 => 5#4 | .m2 => 6#4 | .m3 => 7#4
  | .l0 => 8#4 | .l1 => 9#4 | .l2 => 10#4 | .l3 => 11#4 | .imask => 12#4 | .irptl => 13#4 | .icntl => 14#4
  | .stacka => 15#4

def Reg1.ofCode (c : BitVec 4) : Reg1 :=
  match c.toNat with
  | 0 => .i0 | 1 => .i1 | 2 => .i2 | 3 => .i3 | 4 => .m0 | 5 => .m1 | 6 => .m2 | 7 => .m3 | 8 => .l0 | 9 => .l1
  | 10 => .l2 | 11 => .l3 | 12 => .imask | 13 => .irptl | 14 => .icntl | _ => .stacka

def Reg2.code : Reg2 → BitVec 4
  | .i4 => 0#4 | .i5 => 1#4 | .i6 => 2#4 | .i7 => 3#4 | .m4 => 4#4 | .m5 => 5#4 | .m6 => 6#4 | .m7 => 7#4
  | .l4 => 8#4 | .l5 => 9#4 | .l6 => 10#4 | .l7 => 11#4 | .cntr => 14#4 | .lpstacka => 15#4

def Reg2.ofCode (c : BitVec 4) : Option Reg2 :=
  match c.toNat with
  | 0 => some .i4 | 1 => some .i5 | 2 => some .i6 | 3 => some .i7 | 4 => some .m4 | 5 => some .m5
  | 6 => some .m6 | 7 => some .m7 | 8 => some .l4 | 9 => some .l5 | 10 => some .l6 | 11 => some .l7
  | 14 => some .cntr | 15 => some .lpstacka | _ => none

def Reg3.code : Reg3 → BitVec 4
  | .astat => 0#4 | .mstat => 1#4 | .sstat => 2#4 | .lpstackp => 3#4 | .ccode => 4#4 | .se => 5#4 | .sb => 6#4
  | .px => 7#4 | .dmpg1 => 8#4 | .dmpg2 => 9#4 | .iopg => 10#4 | .ijpg => 11#4 | .stackp => 15#4

def Reg3.ofCode (c : BitVec 4) : Option Reg3 :=
  match c.toNat with
  | 0 => some .astat | 1 => some .mstat | 2 => some .sstat | 3 => some .lpstackp | 4 => some .ccode
  | 5 => some .se | 6 => some .sb | 7 => some .px | 8 => some .dmpg1 | 9 => some .dmpg2 | 10 => some .iopg
  | 11 => some .ijpg | 15 => some .stackp | _ => none

def Cond.code : Cond → BitVec 4
  | .eq => 0#4 | .ne => 1#4 | .gt => 2#4 | .le => 3#4 | .lt => 4#4 | .ge => 5#4 | .av => 6#4 | .notAv => 7#4
  | .ac => 8#4 | .notAc => 9#4 | .swcond => 10#4 | .notSwcond => 11#4 | .mv => 12#4 | .notMv => 13#4
  | .notCe => 14#4 | .always => 15#4

def Cond.ofCode (c : BitVec 4) : Cond :=
  match c.toNat with
  | 0 => .eq | 1 => .ne | 2 => .gt | 3 => .le | 4 => .lt | 5 => .ge | 6 => .av | 7 => .notAv | 8 => .ac
  | 9 => .notAc | 10 => .swcond | 11 => .notSwcond | 12 => .mv | 13 => .notMv | 14 => .notCe | _ => .always

def DmDest.code : DmDest → BitVec 2
  | .ax0 => 0#2 | .ax1 => 1#2 | .mx0 => 2#2 | .mx1 => 3#2

def DmDest.ofCode (c : BitVec 2) : DmDest :=
  match c.toNat with
  | 0 => .ax0 | 1 => .ax1 | 2 => .mx0 | _ => .mx1

def PmDest.code : PmDest → BitVec 2
  | .ay0 => 0#2 | .ay1 => 1#2 | .my0 => 2#2 | .my1 => 3#2

def PmDest.ofCode (c : BitVec 2) : PmDest :=
  match c.toNat with
  | 0 => .ay0 | 1 => .ay1 | 2 => .my0 | _ => .my1

def StackField.code : StackField → BitVec 2
  | .keep0 => 0#2 | .keep1 => 1#2 | .push => 2#2 | .pop => 3#2

def StackField.ofCode (c : BitVec 2) : StackField :=
  match c.toNat with
  | 0 => .keep0 | 1 => .keep1 | 2 => .push | _ => .pop

def ModeField.code : ModeField → BitVec 2
  | .keep0 => 0#2 | .keep1 => 1#2 | .dis => 2#2 | .ena => 3#2

def ModeField.ofCode (c : BitVec 2) : ModeField :=
  match c.toNat with
  | 0 => .keep0 | 1 => .keep1 | 2 => .dis | _ => .ena

/-- The group half RGP of a core register's code (R147). -/
def Reg.group : Reg → BitVec 2
  | .g0 _ => 0#2 | .g1 _ => 1#2 | .g2 _ => 2#2 | .g3 _ => 3#2

/-- The address half of a core register's code (R147). -/
def Reg.addr : Reg → BitVec 4
  | .g0 r => r.code | .g1 r => r.code | .g2 r => r.code | .g3 r => r.code

/-- The core register of a group and an address; the five reserved codes name none (R147). -/
def Reg.ofCode (grp : BitVec 2) (a : BitVec 4) : Option Reg :=
  match grp.toNat with
  | 0 => some (.g0 (Dreg.ofCode a))
  | 1 => some (.g1 (Reg1.ofCode a))
  | 2 => (Reg2.ofCode a).map .g2
  | _ => (Reg3.ofCode a).map .g3

/-- IREG/MREG codes of Type 3 (R151): 0 to 7 are I0 to I7, 8 to 15 are M0 to M7. -/
def DagReg.code : DagReg → BitVec 4
  | .i g n => 0#1 ++ g.code ++ n.code
  | .m g n => 1#1 ++ g.code ++ n.code

def DagReg.ofCode (c : BitVec 4) : DagReg :=
  if c.extractLsb' 3 1 = 0#1 then .i (Dag.ofCode (c.extractLsb' 2 1)) (Slot.ofCode (c.extractLsb' 0 2))
  else .m (Dag.ofCode (c.extractLsb' 2 1)) (Slot.ofCode (c.extractLsb' 0 2))

/-- The RGP code of a DAG's register group (R183): 01 for DAG1, 10 for DAG2. -/
def Dag.groupCode : Dag → BitVec 2
  | .dag1 => 1#2 | .dag2 => 2#2

/-- The low four bits of a multiplier function's AMF code (R144). -/
def macCode : MacOp → MacFmt → BitVec 4
  | .mul, .rnd => 1#4 | .add, .rnd => 2#4 | .sub, .rnd => 3#4
  | .mul, .ss => 4#4 | .mul, .su => 5#4 | .mul, .us => 6#4 | .mul, .uu => 7#4
  | .add, .ss => 8#4 | .add, .su => 9#4 | .add, .us => 10#4 | .add, .uu => 11#4
  | .sub, .ss => 12#4 | .sub, .su => 13#4 | .sub, .us => 14#4 | .sub, .uu => 15#4

/-- The multiplier function of the low four bits of AMF; 0000 is no operation (R144). -/
def macOfCode (c : BitVec 4) : Option (MacOp × MacFmt) :=
  match c.toNat with
  | 0 => none
  | 1 => some (.mul, .rnd) | 2 => some (.add, .rnd) | 3 => some (.sub, .rnd)
  | 4 => some (.mul, .ss) | 5 => some (.mul, .su) | 6 => some (.mul, .us) | 7 => some (.mul, .uu)
  | 8 => some (.add, .ss) | 9 => some (.add, .su) | 10 => some (.add, .us) | 11 => some (.add, .uu)
  | 12 => some (.sub, .ss) | 13 => some (.sub, .su) | 14 => some (.sub, .us) | _ => some (.sub, .uu)

/-- The AMF code of a multiplier selection, without its leading 0. -/
def MacSel.amf4 : MacSel → BitVec 4
  | .nop _ => 0#4
  | .mac op fmt _ _ => macCode op fmt

/-- The YOP and XOP fields of a multiplier selection. -/
def MacSel.yx : MacSel → BitVec 5
  | .nop yx => yx
  | .mac _ _ y x => y.code ++ x.code

def MacSel.ofFields (amf4 : BitVec 4) (yx : BitVec 5) : MacSel :=
  match macOfCode amf4 with
  | none => .nop yx
  | some (op, fmt) => .mac op fmt (MacYop.ofCode (yx.extractLsb' 3 2)) (MacXop.ofCode (yx.extractLsb' 0 3))

/-- The AMF field of a compute (R144): 1xxxx selects an ALU function, 0xxxx a multiplier function or none. -/
def Compute.amf : Compute → BitVec 5
  | .alu f _ _ => 1#1 ++ f.code
  | .mac f => 0#1 ++ f.amf4

def Compute.yx : Compute → BitVec 5
  | .alu _ y x => y.code ++ x.code
  | .mac f => f.yx

def Compute.ofFields (amf yx : BitVec 5) : Compute :=
  if amf.extractLsb' 4 1 = 1#1 then
    .alu (AluFn.ofCode (amf.extractLsb' 0 4)) (AluYop.ofCode (yx.extractLsb' 3 2)) (AluXop.ofCode (yx.extractLsb' 0 3))
  else .mac (MacSel.ofFields (amf.extractLsb' 0 4) yx)

/-! ## Encoder -/

/-- The words of an instruction, first word at the lower address (R140, R152 to R188); one arm per row of
spec/opcode_table.json, fields in the row's bit order, blank bits 0. The terms of NONE = keep the bit Z of their word, so
that the words with Z = 1, which R249 and R288 have no encoder write, are decoded and encoded too (DEDUCED, log entry
19). -/
def encode : Instr → List Code
  | .aluPassYop z y x c => [0b00100#5 ++ z.code ++ 0b10000#5 ++ y.code ++ x.code ++ 0b0000#4 ++ c.code]
  | .aluPassConst z k x c =>
      [0b00100#5 ++ z.code ++ 0b10000#5 ++ k.n.extractLsb' 2 2 ++ x.code ++ k.n.extractLsb' 0 2 ++ bit k.neg ++ 0b1#1 ++ c.code]
  | .aluPassReg z y0 x y => [0b00100#5 ++ z.code ++ 0b10000#5 ++ bit y0 ++ x.code ++ 0b0010#4 ++ y.code]
  | .aluIncYop z y x c => [0b00100#5 ++ z.code ++ 0b10001#5 ++ y.code ++ x.code ++ 0b0000#4 ++ c.code]
  | .aluIncConst z k x c =>
      [0b00100#5 ++ z.code ++ 0b10001#5 ++ k.n.extractLsb' 2 2 ++ x.code ++ k.n.extractLsb' 0 2 ++ bit k.neg ++ 0b1#1 ++ c.code]
  | .aluIncReg z y0 x y => [0b00100#5 ++ z.code ++ 0b10001#5 ++ bit y0 ++ x.code ++ 0b0010#4 ++ y.code]
  | .aluAddCYop z y x c => [0b00100#5 ++ z.code ++ 0b10010#5 ++ y.code ++ x.code ++ 0b0000#4 ++ c.code]
  | .aluAddCConst z k x c =>
      [0b00100#5 ++ z.code ++ 0b10010#5 ++ k.n.extractLsb' 2 2 ++ x.code ++ k.n.extractLsb' 0 2 ++ bit k.neg ++ 0b1#1 ++ c.code]
  | .aluAddCReg z y0 x y => [0b00100#5 ++ z.code ++ 0b10010#5 ++ bit y0 ++ x.code ++ 0b0010#4 ++ y.code]
  | .aluAddYop z y x c => [0b00100#5 ++ z.code ++ 0b10011#5 ++ y.code ++ x.code ++ 0b0000#4 ++ c.code]
  | .aluAddConst z k x c =>
      [0b00100#5 ++ z.code ++ 0b10011#5 ++ k.n.extractLsb' 2 2 ++ x.code ++ k.n.extractLsb' 0 2 ++ bit k.neg ++ 0b1#1 ++ c.code]
  | .aluAddReg z y0 x y => [0b00100#5 ++ z.code ++ 0b10011#5 ++ bit y0 ++ x.code ++ 0b0010#4 ++ y.code]
  | .aluNotYYop z y x c => [0b00100#5 ++ z.code ++ 0b10100#5 ++ y.code ++ x.code ++ 0b0000#4 ++ c.code]
  | .aluNotYConst z k x c =>
      [0b00100#5 ++ z.code ++ 0b10100#5 ++ k.n.extractLsb' 2 2 ++ x.code ++ k.n.extractLsb' 0 2 ++ bit k.neg ++ 0b1#1 ++ c.code]
  | .aluNotYReg z y0 x y => [0b00100#5 ++ z.code ++ 0b10100#5 ++ bit y0 ++ x.code ++ 0b0010#4 ++ y.code]
  | .aluNegYop z y x c => [0b00100#5 ++ z.code ++ 0b10101#5 ++ y.code ++ x.code ++ 0b0000#4 ++ c.code]
  | .aluNegConst z k x c =>
      [0b00100#5 ++ z.code ++ 0b10101#5 ++ k.n.extractLsb' 2 2 ++ x.code ++ k.n.extractLsb' 0 2 ++ bit k.neg ++ 0b1#1 ++ c.code]
  | .aluNegReg z y0 x y => [0b00100#5 ++ z.code ++ 0b10101#5 ++ bit y0 ++ x.code ++ 0b0010#4 ++ y.code]
  | .aluSubBYop z y x c => [0b00100#5 ++ z.code ++ 0b10110#5 ++ y.code ++ x.code ++ 0b0000#4 ++ c.code]
  | .aluSubBConst z k x c =>
      [0b00100#5 ++ z.code ++ 0b10110#5 ++ k.n.extractLsb' 2 2 ++ x.code ++ k.n.extractLsb' 0 2 ++ bit k.neg ++ 0b1#1 ++ c.code]
  | .aluSubBReg z y0 x y => [0b00100#5 ++ z.code ++ 0b10110#5 ++ bit y0 ++ x.code ++ 0b0010#4 ++ y.code]
  | .aluSubYop z y x c => [0b00100#5 ++ z.code ++ 0b10111#5 ++ y.code ++ x.code ++ 0b0000#4 ++ c.code]
  | .aluSubConst z k x c =>
      [0b00100#5 ++ z.code ++ 0b10111#5 ++ k.n.extractLsb' 2 2 ++ x.code ++ k.n.extractLsb' 0 2 ++ bit k.neg ++ 0b1#1 ++ c.code]
  | .aluSubReg z y0 x y => [0b00100#5 ++ z.code ++ 0b10111#5 ++ bit y0 ++ x.code ++ 0b0010#4 ++ y.code]
  | .aluDecYop z y x c => [0b00100#5 ++ z.code ++ 0b11000#5 ++ y.code ++ x.code ++ 0b0000#4 ++ c.code]
  | .aluDecConst z k x c =>
      [0b00100#5 ++ z.code ++ 0b11000#5 ++ k.n.extractLsb' 2 2 ++ x.code ++ k.n.extractLsb' 0 2 ++ bit k.neg ++ 0b1#1 ++ c.code]
  | .aluDecReg z y0 x y => [0b00100#5 ++ z.code ++ 0b11000#5 ++ bit y0 ++ x.code ++ 0b0010#4 ++ y.code]
  | .aluRsubYop z y x c => [0b00100#5 ++ z.code ++ 0b11001#5 ++ y.code ++ x.code ++ 0b0000#4 ++ c.code]
  | .aluRsubConst z k x c =>
      [0b00100#5 ++ z.code ++ 0b11001#5 ++ k.n.extractLsb' 2 2 ++ x.code ++ k.n.extractLsb' 0 2 ++ bit k.neg ++ 0b1#1 ++ c.code]
  | .aluRsubReg z y0 x y => [0b00100#5 ++ z.code ++ 0b11001#5 ++ bit y0 ++ x.code ++ 0b0010#4 ++ y.code]
  | .aluRsubBYop z y x c => [0b00100#5 ++ z.code ++ 0b11010#5 ++ y.code ++ x.code ++ 0b0000#4 ++ c.code]
  | .aluRsubBConst z k x c =>
      [0b00100#5 ++ z.code ++ 0b11010#5 ++ k.n.extractLsb' 2 2 ++ x.code ++ k.n.extractLsb' 0 2 ++ bit k.neg ++ 0b1#1 ++ c.code]
  | .aluRsubBReg z y0 x y => [0b00100#5 ++ z.code ++ 0b11010#5 ++ bit y0 ++ x.code ++ 0b0010#4 ++ y.code]
  | .aluNotXYop z y x c => [0b00100#5 ++ z.code ++ 0b11011#5 ++ y.code ++ x.code ++ 0b0000#4 ++ c.code]
  | .aluNotXConst z k x c =>
      [0b00100#5 ++ z.code ++ 0b11011#5 ++ k.n.extractLsb' 2 2 ++ x.code ++ k.n.extractLsb' 0 2 ++ bit k.neg ++ 0b1#1 ++ c.code]
  | .aluNotXReg z y0 x y => [0b00100#5 ++ z.code ++ 0b11011#5 ++ bit y0 ++ x.code ++ 0b0010#4 ++ y.code]
  | .aluAndYop z y x c => [0b00100#5 ++ z.code ++ 0b11100#5 ++ y.code ++ x.code ++ 0b0000#4 ++ c.code]
  | .aluAndConst z k x c =>
      [0b00100#5 ++ z.code ++ 0b11100#5 ++ k.n.extractLsb' 2 2 ++ x.code ++ k.n.extractLsb' 0 2 ++ bit k.neg ++ 0b1#1 ++ c.code]
  | .aluAndReg z y0 x y => [0b00100#5 ++ z.code ++ 0b11100#5 ++ bit y0 ++ x.code ++ 0b0010#4 ++ y.code]
  | .aluOrYop z y x c => [0b00100#5 ++ z.code ++ 0b11101#5 ++ y.code ++ x.code ++ 0b0000#4 ++ c.code]
  | .aluOrConst z k x c =>
      [0b00100#5 ++ z.code ++ 0b11101#5 ++ k.n.extractLsb' 2 2 ++ x.code ++ k.n.extractLsb' 0 2 ++ bit k.neg ++ 0b1#1 ++ c.code]
  | .aluOrReg z y0 x y => [0b00100#5 ++ z.code ++ 0b11101#5 ++ bit y0 ++ x.code ++ 0b0010#4 ++ y.code]
  | .aluXorYop z y x c => [0b00100#5 ++ z.code ++ 0b11110#5 ++ y.code ++ x.code ++ 0b0000#4 ++ c.code]
  | .aluXorConst z k x c =>
      [0b00100#5 ++ z.code ++ 0b11110#5 ++ k.n.extractLsb' 2 2 ++ x.code ++ k.n.extractLsb' 0 2 ++ bit k.neg ++ 0b1#1 ++ c.code]
  | .aluXorReg z y0 x y => [0b00100#5 ++ z.code ++ 0b11110#5 ++ bit y0 ++ x.code ++ 0b0010#4 ++ y.code]
  | .aluAbsYop z y x c => [0b00100#5 ++ z.code ++ 0b11111#5 ++ y.code ++ x.code ++ 0b0000#4 ++ c.code]
  | .aluAbsConst z k x c =>
      [0b00100#5 ++ z.code ++ 0b11111#5 ++ k.n.extractLsb' 2 2 ++ x.code ++ k.n.extractLsb' 0 2 ++ bit k.neg ++ 0b1#1 ++ c.code]
  | .aluAbsReg z y0 x y => [0b00100#5 ++ z.code ++ 0b11111#5 ++ bit y0 ++ x.code ++ 0b0010#4 ++ y.code]
  | .tstBit z n x c =>
      [0b00100#5 ++ z.code ++ 0b11100#5 ++ n.extractLsb' 2 2 ++ x.code ++ n.extractLsb' 0 2 ++ 0b01#2 ++ c.code]
  | .setBit z n x c =>
      [0b00100#5 ++ z.code ++ 0b11101#5 ++ n.extractLsb' 2 2 ++ x.code ++ n.extractLsb' 0 2 ++ 0b01#2 ++ c.code]
  | .clrBit z n x c =>
      [0b00100#5 ++ z.code ++ 0b11100#5 ++ n.extractLsb' 2 2 ++ x.code ++ n.extractLsb' 0 2 ++ 0b11#2 ++ c.code]
  | .tglBit z n x c =>
      [0b00100#5 ++ z.code ++ 0b11110#5 ++ n.extractLsb' 2 2 ++ x.code ++ n.extractLsb' 0 2 ++ 0b01#2 ++ c.code]
  | .passZero z x c => [0b00100#5 ++ z.code ++ 0b1000011#7 ++ x.code ++ 0b0000#4 ++ c.code]
  | .passOne z x c => [0b00100#5 ++ z.code ++ 0b1000111#7 ++ x.code ++ 0b0000#4 ++ c.code]
  | .passMinusOne z x c => [0b00100#5 ++ z.code ++ 0b1100011#7 ++ x.code ++ 0b0000#4 ++ c.code]
  | .passXop z x c => [0b00100#5 ++ z.code ++ 0b1001111#7 ++ x.code ++ 0b0000#4 ++ c.code]
  | .negXop z x c => [0b00100#5 ++ z.code ++ 0b1100111#7 ++ x.code ++ 0b0000#4 ++ c.code]
  | .macMulRndYop z y x c => [0b00100#5 ++ z.code ++ 0b00001#5 ++ y.code ++ x.code ++ 0b0000#4 ++ c.code]
  | .macMulRndSq z x c => [0b00100#5 ++ z.code ++ 0b0000100#7 ++ x.code ++ 0b0001#4 ++ c.code]
  | .macMulRndReg z y0 x y => [0b00100#5 ++ z.code ++ 0b00001#5 ++ bit y0 ++ x.code ++ 0b0010#4 ++ y.code]
  | .macAddRndYop z y x c => [0b00100#5 ++ z.code ++ 0b00010#5 ++ y.code ++ x.code ++ 0b0000#4 ++ c.code]
  | .macAddRndSq z x c => [0b00100#5 ++ z.code ++ 0b0001000#7 ++ x.code ++ 0b0001#4 ++ c.code]
  | .macAddRndReg z y0 x y => [0b00100#5 ++ z.code ++ 0b00010#5 ++ bit y0 ++ x.code ++ 0b0010#4 ++ y.code]
  | .macSubRndYop z y x c => [0b00100#5 ++ z.code ++ 0b00011#5 ++ y.code ++ x.code ++ 0b0000#4 ++ c.code]
  | .macSubRndSq z x c => [0b00100#5 ++ z.code ++ 0b0001100#7 ++ x.code ++ 0b0001#4 ++ c.code]
  | .macSubRndReg z y0 x y => [0b00100#5 ++ z.code ++ 0b00011#5 ++ bit y0 ++ x.code ++ 0b0010#4 ++ y.code]
  | .macMulSsYop z y x c => [0b00100#5 ++ z.code ++ 0b00100#5 ++ y.code ++ x.code ++ 0b0000#4 ++ c.code]
  | .macMulSsSq z x c => [0b00100#5 ++ z.code ++ 0b0010000#7 ++ x.code ++ 0b0001#4 ++ c.code]
  | .macMulSsReg z y0 x y => [0b00100#5 ++ z.code ++ 0b00100#5 ++ bit y0 ++ x.code ++ 0b0010#4 ++ y.code]
  | .macMulSuYop z y x c => [0b00100#5 ++ z.code ++ 0b00101#5 ++ y.code ++ x.code ++ 0b0000#4 ++ c.code]
  | .macMulSuSq z x c => [0b00100#5 ++ z.code ++ 0b0010100#7 ++ x.code ++ 0b0001#4 ++ c.code]
  | .macMulSuReg z y0 x y => [0b00100#5 ++ z.code ++ 0b00101#5 ++ bit y0 ++ x.code ++ 0b0010#4 ++ y.code]
  | .macMulUsYop z y x c => [0b00100#5 ++ z.code ++ 0b00110#5 ++ y.code ++ x.code ++ 0b0000#4 ++ c.code]
  | .macMulUsSq z x c => [0b00100#5 ++ z.code ++ 0b0011000#7 ++ x.code ++ 0b0001#4 ++ c.code]
  | .macMulUsReg z y0 x y => [0b00100#5 ++ z.code ++ 0b00110#5 ++ bit y0 ++ x.code ++ 0b0010#4 ++ y.code]
  | .macMulUuYop z y x c => [0b00100#5 ++ z.code ++ 0b00111#5 ++ y.code ++ x.code ++ 0b0000#4 ++ c.code]
  | .macMulUuSq z x c => [0b00100#5 ++ z.code ++ 0b0011100#7 ++ x.code ++ 0b0001#4 ++ c.code]
  | .macMulUuReg z y0 x y => [0b00100#5 ++ z.code ++ 0b00111#5 ++ bit y0 ++ x.code ++ 0b0010#4 ++ y.code]
  | .macAddSsYop z y x c => [0b00100#5 ++ z.code ++ 0b01000#5 ++ y.code ++ x.code ++ 0b0000#4 ++ c.code]
  | .macAddSsSq z x c => [0b00100#5 ++ z.code ++ 0b0100000#7 ++ x.code ++ 0b0001#4 ++ c.code]
  | .macAddSsReg z y0 x y => [0b00100#5 ++ z.code ++ 0b01000#5 ++ bit y0 ++ x.code ++ 0b0010#4 ++ y.code]
  | .macAddSuYop z y x c => [0b00100#5 ++ z.code ++ 0b01001#5 ++ y.code ++ x.code ++ 0b0000#4 ++ c.code]
  | .macAddSuSq z x c => [0b00100#5 ++ z.code ++ 0b0100100#7 ++ x.code ++ 0b0001#4 ++ c.code]
  | .macAddSuReg z y0 x y => [0b00100#5 ++ z.code ++ 0b01001#5 ++ bit y0 ++ x.code ++ 0b0010#4 ++ y.code]
  | .macAddUsYop z y x c => [0b00100#5 ++ z.code ++ 0b01010#5 ++ y.code ++ x.code ++ 0b0000#4 ++ c.code]
  | .macAddUsSq z x c => [0b00100#5 ++ z.code ++ 0b0101000#7 ++ x.code ++ 0b0001#4 ++ c.code]
  | .macAddUsReg z y0 x y => [0b00100#5 ++ z.code ++ 0b01010#5 ++ bit y0 ++ x.code ++ 0b0010#4 ++ y.code]
  | .macAddUuYop z y x c => [0b00100#5 ++ z.code ++ 0b01011#5 ++ y.code ++ x.code ++ 0b0000#4 ++ c.code]
  | .macAddUuSq z x c => [0b00100#5 ++ z.code ++ 0b0101100#7 ++ x.code ++ 0b0001#4 ++ c.code]
  | .macAddUuReg z y0 x y => [0b00100#5 ++ z.code ++ 0b01011#5 ++ bit y0 ++ x.code ++ 0b0010#4 ++ y.code]
  | .macSubSsYop z y x c => [0b00100#5 ++ z.code ++ 0b01100#5 ++ y.code ++ x.code ++ 0b0000#4 ++ c.code]
  | .macSubSsSq z x c => [0b00100#5 ++ z.code ++ 0b0110000#7 ++ x.code ++ 0b0001#4 ++ c.code]
  | .macSubSsReg z y0 x y => [0b00100#5 ++ z.code ++ 0b01100#5 ++ bit y0 ++ x.code ++ 0b0010#4 ++ y.code]
  | .macSubSuYop z y x c => [0b00100#5 ++ z.code ++ 0b01101#5 ++ y.code ++ x.code ++ 0b0000#4 ++ c.code]
  | .macSubSuSq z x c => [0b00100#5 ++ z.code ++ 0b0110100#7 ++ x.code ++ 0b0001#4 ++ c.code]
  | .macSubSuReg z y0 x y => [0b00100#5 ++ z.code ++ 0b01101#5 ++ bit y0 ++ x.code ++ 0b0010#4 ++ y.code]
  | .macSubUsYop z y x c => [0b00100#5 ++ z.code ++ 0b01110#5 ++ y.code ++ x.code ++ 0b0000#4 ++ c.code]
  | .macSubUsSq z x c => [0b00100#5 ++ z.code ++ 0b0111000#7 ++ x.code ++ 0b0001#4 ++ c.code]
  | .macSubUsReg z y0 x y => [0b00100#5 ++ z.code ++ 0b01110#5 ++ bit y0 ++ x.code ++ 0b0010#4 ++ y.code]
  | .macSubUuYop z y x c => [0b00100#5 ++ z.code ++ 0b01111#5 ++ y.code ++ x.code ++ 0b0000#4 ++ c.code]
  | .macSubUuSq z x c => [0b00100#5 ++ z.code ++ 0b0111100#7 ++ x.code ++ 0b0001#4 ++ c.code]
  | .macSubUuReg z y0 x y => [0b00100#5 ++ z.code ++ 0b01111#5 ++ bit y0 ++ x.code ++ 0b0010#4 ++ y.code]
  | .clearAcc z x c => [0b00100#5 ++ z.code ++ 0b0010011#7 ++ x.code ++ 0b0000#4 ++ c.code]
  | .roundAcc z x c => [0b00100#5 ++ z.code ++ 0b0001011#7 ++ x.code ++ 0b0000#4 ++ c.code]
  | .condNop zyx c =>
      [0b00100#5 ++ (zyx.extractLsb' 5 1) ++ 0b00000#5 ++ (zyx.extractLsb' 3 2) ++ (zyx.extractLsb' 0 3) ++ 0b0000#4 ++ c.code]
  | .regNop z y0 x y => [0b00100#5 ++ z.code ++ 0b00000#5 ++ bit y0 ++ x.code ++ 0b0010#4 ++ y.code]
  | .divs y x => [0b00000011100#11 ++ y.code ++ x.code ++ 0b00000000#8]
  | .divq x => [0b0000001111010#13 ++ x.code ++ 0b00000000#8]
  | .satMr => [0b000000110000000000000000#24]
  | .satSr => [0b000000110100000000000000#24]
  | .lshiftHi x c => [0b000011100000#12 ++ x.code ++ 0b0000#4 ++ c.code]
  | .lshiftHiOr x c => [0b000011100001#12 ++ x.code ++ 0b0000#4 ++ c.code]
  | .lshiftLo x c => [0b000011100010#12 ++ x.code ++ 0b0000#4 ++ c.code]
  | .lshiftLoOr x c => [0b000011100011#12 ++ x.code ++ 0b0000#4 ++ c.code]
  | .ashiftHi x c => [0b000011100100#12 ++ x.code ++ 0b0000#4 ++ c.code]
  | .ashiftHiOr x c => [0b000011100101#12 ++ x.code ++ 0b0000#4 ++ c.code]
  | .ashiftLo x c => [0b000011100110#12 ++ x.code ++ 0b0000#4 ++ c.code]
  | .ashiftLoOr x c => [0b000011100111#12 ++ x.code ++ 0b0000#4 ++ c.code]
  | .normHi x c => [0b000011101000#12 ++ x.code ++ 0b0000#4 ++ c.code]
  | .normHiOr x c => [0b000011101001#12 ++ x.code ++ 0b0000#4 ++ c.code]
  | .normLo x c => [0b000011101010#12 ++ x.code ++ 0b0000#4 ++ c.code]
  | .normLoOr x c => [0b000011101011#12 ++ x.code ++ 0b0000#4 ++ c.code]
  | .expHi x c => [0b000011101100#12 ++ x.code ++ 0b0000#4 ++ c.code]
  | .expHix x c => [0b000011101101#12 ++ x.code ++ 0b0000#4 ++ c.code]
  | .expLo x c => [0b000011101110#12 ++ x.code ++ 0b0000#4 ++ c.code]
  | .expAdj x c => [0b000011101111#12 ++ x.code ++ 0b0000#4 ++ c.code]
  | .lshiftHiImm x e => [0b000011110000#12 ++ x.code ++ e]
  | .lshiftHiOrImm x e => [0b000011110001#12 ++ x.code ++ e]
  | .lshiftLoImm x e => [0b000011110010#12 ++ x.code ++ e]
  | .lshiftLoOrImm x e => [0b000011110011#12 ++ x.code ++ e]
  | .ashiftHiImm x e => [0b000011110100#12 ++ x.code ++ e]
  | .ashiftHiOrImm x e => [0b000011110101#12 ++ x.code ++ e]
  | .ashiftLoImm x e => [0b000011110110#12 ++ x.code ++ e]
  | .ashiftLoOrImm x e => [0b000011110111#12 ++ x.code ++ e]
  | .dualCompute f pd dd pmi pmm dmi dmm =>
      [0b11#2 ++ pd.code ++ dd.code ++ f.amf ++ f.yx ++ pmi.code ++ pmm.code ++ dmi.code ++ dmm.code]
  | .dualRead unused pd dd pmi pmm dmi dmm =>
      [0b11#2 ++ pd.code ++ dd.code ++ 0b00000#5 ++ unused ++ pmi.code ++ pmm.code ++ dmi.code ++ dmm.code]
  | .computeRead g z f d i m => [0b011#3 ++ g.code ++ 0b0#1 ++ z.code ++ f.amf ++ f.yx ++ d.code ++ i.code ++ m.code]
  | .computeWrite g z f d i m => [0b011#3 ++ g.code ++ 0b1#1 ++ z.code ++ f.amf ++ f.yx ++ d.code ++ i.code ++ m.code]
  | .computeMove z f d src => [0b00101#5 ++ z.code ++ f.amf ++ f.yx ++ d.code ++ src.code]
  | .noneAlu z f y x => [0b00101#5 ++ z.code ++ 0b1#1 ++ f.code ++ y.code ++ x.code ++ 0b10101010#8]
  | .noneMac z f => [0b00101#5 ++ z.code ++ 0b0#1 ++ f.amf4 ++ f.yx ++ 0b10101010#8]
  | .shiftRead g f x d i m => [0b0001001#7 ++ g.code ++ f.code ++ 0b0#1 ++ x.code ++ d.code ++ i.code ++ m.code]
  | .shiftWrite g f x d i m => [0b0001001#7 ++ g.code ++ f.code ++ 0b1#1 ++ x.code ++ d.code ++ i.code ++ m.code]
  | .shiftMove f x d src => [0b00010100#8 ++ f.code ++ x.code ++ d.code ++ src.code]
  | .moveReg d src => [0b000011010000#12 ++ d.group ++ src.group ++ d.addr ++ src.addr]
  | .loadDagDirect a r => [0b1010#4 ++ a ++ r.code]
  | .storeDagDirect a r => [0b1011#4 ++ a ++ r.code]
  | .loadDregDirect a d => [0b1000#4 ++ a ++ d.code]
  | .storeDregDirect a d => [0b1001#4 ++ a ++ d.code]
  | .loadDregImm v d => [0b0100#4 ++ v ++ d.code]
  | .loadReg1Imm v r => [0b0101#4 ++ v ++ r.code]
  | .loadReg2Imm v r => [0b0011#4 ++ v ++ r.code]
  | .loadReg3Imm v r => [0b00010000#8 ++ v ++ r.code]
  | .dmReadPost g r i m => [0b0001010101#10 ++ g.code ++ 0b000#3 ++ r.group ++ r.addr ++ i.code ++ m.code]
  | .dmWritePost g r i m => [0b0001010101#10 ++ g.code ++ 0b100#3 ++ r.group ++ r.addr ++ i.code ++ m.code]
  | .dmReadPre g r i m => [0b0001010100#10 ++ g.code ++ 0b000#3 ++ r.group ++ r.addr ++ i.code ++ m.code]
  | .dmWritePre g r i m => [0b0001010100#10 ++ g.code ++ 0b100#3 ++ r.group ++ r.addr ++ i.code ++ m.code]
  | .pmReadPost g r i m => [0b0001010111#10 ++ g.code ++ 0b000#3 ++ r.group ++ r.addr ++ i.code ++ m.code]
  | .pmWritePost g r i m => [0b0001010111#10 ++ g.code ++ 0b100#3 ++ r.group ++ r.addr ++ i.code ++ m.code]
  | .pmReadPre g r i m => [0b0001010110#10 ++ g.code ++ 0b000#3 ++ r.group ++ r.addr ++ i.code ++ m.code]
  | .pmWritePre g r i m => [0b0001010110#10 ++ g.code ++ 0b100#3 ++ r.group ++ r.addr ++ i.code ++ m.code]
  | .dagStorePost g grp k j i m =>
      [0b0001010101#10 ++ g.code ++ 0b110#3 ++ grp.groupCode ++ (k.code ++ j.code) ++ i.code ++ m.code]
  | .dagStorePre g grp k j i m =>
      [0b0001010100#10 ++ g.code ++ 0b110#3 ++ grp.groupCode ++ (k.code ++ j.code) ++ i.code ++ m.code]
  | .immReadPost g d n i =>
      [0b00001001#8 ++ d.code.extractLsb' 0 2 ++ g.code ++ 0b0#1 ++ n ++ i.code ++ d.code.extractLsb' 2 2]
  | .immWritePost g d n i =>
      [0b00001001#8 ++ d.code.extractLsb' 0 2 ++ g.code ++ 0b1#1 ++ n ++ i.code ++ d.code.extractLsb' 2 2]
  | .immReadPre g d n i =>
      [0b00001000#8 ++ d.code.extractLsb' 0 2 ++ g.code ++ 0b0#1 ++ n ++ i.code ++ d.code.extractLsb' 2 2]
  | .immWritePre g d n i =>
      [0b00001000#8 ++ d.code.extractLsb' 0 2 ++ g.code ++ 0b1#1 ++ n ++ i.code ++ d.code.extractLsb' 2 2]
  | .storeImm16 g i m v =>
      [0b0000011110#10 ++ g.code ++ 0b0#1 ++ v.extractLsb' 0 8 ++ i.code ++ m.code,
       0b0000#4 ++ v.extractLsb' 8 8 ++ 0b000000000000#12]
  | .storeImm24 g i m v =>
      [0b0000011111#10 ++ g.code ++ 0b0#1 ++ v.extractLsb' 8 8 ++ i.code ++ m.code,
       0b0000#4 ++ v.extractLsb' 16 8 ++ v.extractLsb' 0 8 ++ 0b0000#4]
  | .ioRead a d => [0b000001101#9 ++ a.extractLsb' 8 2 ++ 0b0#1 ++ a.extractLsb' 0 8 ++ d.code]
  | .ioWrite a d => [0b000001101#9 ++ a.extractLsb' 8 2 ++ 0b1#1 ++ a.extractLsb' 0 8 ++ d.code]
  | .sysRead a d => [0b000001100000#12 ++ a ++ d.code]
  | .sysWrite a d => [0b000001100001#12 ++ a ++ d.code]
  | .modify g i m => [0b0000000110#10 ++ g.code ++ 0b000000000#9 ++ i.code ++ m.code]
  | .modifyImm g n i => [0b0000000100#10 ++ g.code ++ 0b0#1 ++ n ++ i.code ++ 0b00#2]
  | .doUntilCe off => [0b00010110#8 ++ off ++ 0b1110#4]
  | .doForever off => [0b00010110#8 ++ off ++ 0b1111#4]
  | .jumpRel13 db off c => [0b000110#6 ++ bit db ++ off ++ c.code]
  | .jumpRel16 db off => [0b000111#6 ++ off.extractLsb' 0 14 ++ bit db ++ 0b0#1 ++ off.extractLsb' 14 2]
  | .callRel16 db off => [0b000111#6 ++ off.extractLsb' 0 14 ++ bit db ++ 0b1#1 ++ off.extractLsb' 14 2]
  | .longJump a c => [0b000001010000#12 ++ a.extractLsb' 16 8 ++ c.code, 0b0000#4 ++ a.extractLsb' 0 16 ++ 0b0000#4]
  | .longCall a c => [0b000001010001#12 ++ a.extractLsb' 16 8 ++ c.code, 0b0000#4 ++ a.extractLsb' 0 16 ++ 0b0000#4]
  | .jumpInd db g c i => [0b00001011#8 ++ bit db ++ 0b0#1 ++ g.code ++ 0b00000#5 ++ c.code ++ i.code ++ 0b00#2]
  | .callInd db g c i => [0b00001011#8 ++ bit db ++ 0b1#1 ++ g.code ++ 0b00000#5 ++ c.code ++ i.code ++ 0b00#2]
  | .rts db c => [0b00001010#8 ++ bit db ++ 0b0000000#7 ++ c.code ++ 0b0000#4]
  | .rti db ss c => [0b00001010#8 ++ bit db ++ 0b1#1 ++ bit ss ++ 0b00000#5 ++ c.code ++ 0b0000#4]
  | .stackControl flush pc lp sts => [0b0000010000000000#16 ++ bit flush ++ pc.code ++ lp.code ++ 0b0#1 ++ sts.code]
  | .pushPc => [0b000001000000000001000000#24]
  | .popPc => [0b000001000000000001100000#24]
  | .pushLoop => [0b000001000000000000010000#24]
  | .popLoop => [0b000001000000000000011000#24]
  | .pushSts => [0b000001000000000000000010#24]
  | .popSts => [0b000001000000000000000011#24]
  | .flushCache => [0b000001000000000010000000#24]
  | .setInt n => [0b00000111000000000000#20 ++ n]
  | .clrInt n => [0b00000111000000000010#20 ++ n]
  | .nop swcd => [0b00000000000000000000#20 ++ swcd]
  | .idle v => [0b00000010000000000000#20 ++ v]
  | .modeControl ti mm sat ol br sr sd int =>
      [0b00001100#8 ++ ti.code ++ mm.code ++ sat.code ++ ol.code ++ br.code ++ sr.code ++ sd.code ++ int.code]

/-- How many 24-bit words an instruction takes: two for Types 22, 22a and 36, else one (R140). -/
def Instr.size : Instr → Nat
  | .storeImm16 _ _ _ _ => 2
  | .storeImm24 _ _ _ _ => 2
  | .longJump _ _ => 2
  | .longCall _ _ => 2
  | _ => 1

/-! ## Decoder -/

/-- Why a word is no instruction (R190; the U numbers are spec/93_implementation_defined.md's). Raised by `decode`
alone; the machine answers a refusal with it, its state unchanged. -/
inductive DecodeError where
  /-- the second word of a two-word instruction is missing (never raised by the machine's fetch) -/
  | truncated
  /-- U1: leading bits that no instruction type has -/
  | unassigned
  /-- U3: a blank bit that is not 0, or Type 20 with T = 0 and Q = 1 -/
  | blankBits
  /-- U2: a reserved core register code -/
  | reservedRegister
  /-- U4: Type 15 with SF above 0111 -/
  | reservedShift
  /-- U5: Type 11 with TERM other than 1110 and 1111 -/
  | reservedTerm
  /-- U6: a Type 9 or 9a word outside the forms of R158 and R159 -/
  | reservedForm
  /-- U7: DIVS with YOP 00 or 11 -/
  | reservedDivs
  /-- U8, U9, U12: an operand the instruction may not have (`Instr.wellFormed`) -/
  | illegalOperand
  deriving DecidableEq, Repr

/-- Type 9 forms (a) and (c): ALU function, register or zero y operand (R158). -/
def Instr.aluYop (f : AluFn) (z : ResultReg) (y : AluYop) (x : AluXop) (c : Cond) : Instr :=
  match f with
  | .pass => .aluPassYop z y x c
  | .inc => .aluIncYop z y x c
  | .addC => .aluAddCYop z y x c
  | .add => .aluAddYop z y x c
  | .notY => .aluNotYYop z y x c
  | .neg => .aluNegYop z y x c
  | .subB => .aluSubBYop z y x c
  | .sub => .aluSubYop z y x c
  | .dec => .aluDecYop z y x c
  | .rsub => .aluRsubYop z y x c
  | .rsubB => .aluRsubBYop z y x c
  | .notX => .aluNotXYop z y x c
  | .and => .aluAndYop z y x c
  | .or => .aluOrYop z y x c
  | .xor => .aluXorYop z y x c
  | .abs => .aluAbsYop z y x c

/-- Type 9 form (b): ALU function, constant y operand (R158). -/
def Instr.aluConst (f : AluFn) (z : ResultReg) (k : Const) (x : AluXop) (c : Cond) : Instr :=
  match f with
  | .pass => .aluPassConst z k x c
  | .inc => .aluIncConst z k x c
  | .addC => .aluAddCConst z k x c
  | .add => .aluAddConst z k x c
  | .notY => .aluNotYConst z k x c
  | .neg => .aluNegConst z k x c
  | .subB => .aluSubBConst z k x c
  | .sub => .aluSubConst z k x c
  | .dec => .aluDecConst z k x c
  | .rsub => .aluRsubConst z k x c
  | .rsubB => .aluRsubBConst z k x c
  | .notX => .aluNotXConst z k x c
  | .and => .aluAndConst z k x c
  | .or => .aluOrConst z k x c
  | .xor => .aluXorConst z k x c
  | .abs => .aluAbsConst z k x c

/-- Type 9a: ALU function of two data registers (R159). -/
def Instr.aluReg (f : AluFn) (z : ResultReg) (y0 : Bool) (x y : Dreg) : Instr :=
  match f with
  | .pass => .aluPassReg z y0 x y
  | .inc => .aluIncReg z y0 x y
  | .addC => .aluAddCReg z y0 x y
  | .add => .aluAddReg z y0 x y
  | .notY => .aluNotYReg z y0 x y
  | .neg => .aluNegReg z y0 x y
  | .subB => .aluSubBReg z y0 x y
  | .sub => .aluSubReg z y0 x y
  | .dec => .aluDecReg z y0 x y
  | .rsub => .aluRsubReg z y0 x y
  | .rsubB => .aluRsubBReg z y0 x y
  | .notX => .aluNotXReg z y0 x y
  | .and => .aluAndReg z y0 x y
  | .or => .aluOrReg z y0 x y
  | .xor => .aluXorReg z y0 x y
  | .abs => .aluAbsReg z y0 x y

/-- Type 9 forms (a) and (c): multiplier function, register or zero y operand (R158). -/
def Instr.macYop (op : MacOp) (fmt : MacFmt) (z : ResultReg) (y : MacYop) (x : MacXop) (c : Cond) : Instr :=
  match op, fmt with
  | .mul, .rnd => .macMulRndYop z y x c
  | .add, .rnd => .macAddRndYop z y x c
  | .sub, .rnd => .macSubRndYop z y x c
  | .mul, .ss => .macMulSsYop z y x c
  | .mul, .su => .macMulSuYop z y x c
  | .mul, .us => .macMulUsYop z y x c
  | .mul, .uu => .macMulUuYop z y x c
  | .add, .ss => .macAddSsYop z y x c
  | .add, .su => .macAddSuYop z y x c
  | .add, .us => .macAddUsYop z y x c
  | .add, .uu => .macAddUuYop z y x c
  | .sub, .ss => .macSubSsYop z y x c
  | .sub, .su => .macSubSuYop z y x c
  | .sub, .us => .macSubUsYop z y x c
  | .sub, .uu => .macSubUuYop z y x c

/-- Type 9 form (d): multiplier function squaring an x operand (R158). -/
def Instr.macSq (op : MacOp) (fmt : MacFmt) (z : ResultReg) (x : MacXop) (c : Cond) : Instr :=
  match op, fmt with
  | .mul, .rnd => .macMulRndSq z x c
  | .add, .rnd => .macAddRndSq z x c
  | .sub, .rnd => .macSubRndSq z x c
  | .mul, .ss => .macMulSsSq z x c
  | .mul, .su => .macMulSuSq z x c
  | .mul, .us => .macMulUsSq z x c
  | .mul, .uu => .macMulUuSq z x c
  | .add, .ss => .macAddSsSq z x c
  | .add, .su => .macAddSuSq z x c
  | .add, .us => .macAddUsSq z x c
  | .add, .uu => .macAddUuSq z x c
  | .sub, .ss => .macSubSsSq z x c
  | .sub, .su => .macSubSuSq z x c
  | .sub, .us => .macSubUsSq z x c
  | .sub, .uu => .macSubUuSq z x c

/-- Type 9a: multiplier function of two data registers (R159). -/
def Instr.macReg (op : MacOp) (fmt : MacFmt) (z : ResultReg) (y0 : Bool) (x y : Dreg) : Instr :=
  match op, fmt with
  | .mul, .rnd => .macMulRndReg z y0 x y
  | .add, .rnd => .macAddRndReg z y0 x y
  | .sub, .rnd => .macSubRndReg z y0 x y
  | .mul, .ss => .macMulSsReg z y0 x y
  | .mul, .su => .macMulSuReg z y0 x y
  | .mul, .us => .macMulUsReg z y0 x y
  | .mul, .uu => .macMulUuReg z y0 x y
  | .add, .ss => .macAddSsReg z y0 x y
  | .add, .su => .macAddSuReg z y0 x y
  | .add, .us => .macAddUsReg z y0 x y
  | .add, .uu => .macAddUuReg z y0 x y
  | .sub, .ss => .macSubSsReg z y0 x y
  | .sub, .su => .macSubSuReg z y0 x y
  | .sub, .us => .macSubUsReg z y0 x y
  | .sub, .uu => .macSubUuReg z y0 x y

/-- Type 16: conditional shift by SE (R166). -/
def Instr.condShift (f : ShiftFn) (x : Dreg) (c : Cond) : Instr :=
  match f with
  | .lshiftHi => .lshiftHi x c
  | .lshiftHiOr => .lshiftHiOr x c
  | .lshiftLo => .lshiftLo x c
  | .lshiftLoOr => .lshiftLoOr x c
  | .ashiftHi => .ashiftHi x c
  | .ashiftHiOr => .ashiftHiOr x c
  | .ashiftLo => .ashiftLo x c
  | .ashiftLoOr => .ashiftLoOr x c
  | .normHi => .normHi x c
  | .normHiOr => .normHiOr x c
  | .normLo => .normLo x c
  | .normLoOr => .normLoOr x c
  | .expHi => .expHi x c
  | .expHix => .expHix x c
  | .expLo => .expLo x c
  | .expAdj => .expAdj x c

/-- Type 15: shift by an immediate; SF above 0111 is reserved (R165, U4). -/
def Instr.immShift (f : ShiftFn) (x : Dreg) (e : BitVec 8) : Except DecodeError Instr :=
  match f with
  | .lshiftHi => .ok (.lshiftHiImm x e)
  | .lshiftHiOr => .ok (.lshiftHiOrImm x e)
  | .lshiftLo => .ok (.lshiftLoImm x e)
  | .lshiftLoOr => .ok (.lshiftLoOrImm x e)
  | .ashiftHi => .ok (.ashiftHiImm x e)
  | .ashiftHiOr => .ok (.ashiftHiOrImm x e)
  | .ashiftLo => .ok (.ashiftLoImm x e)
  | .ashiftLoOr => .ok (.ashiftLoOrImm x e)
  | _ => .error .reservedShift

/-- A word that several rows of spec/opcode_table.json match belongs to the most specific of them: the rows TSTBIT,
SETBIT, CLRBIT, TGLBIT, PASS 0, PASS 1, PASS -1, PASS Xop, -Xop, MR = 0, MR = MR (RND), the dual read without compute,
NONE = and the single PUSH, POP and FLUSH CACHE words (R152, R157, R178, R191, R192). Every other instruction is its
own. -/
def specialise : Instr → Instr
  | .aluAndConst z ⟨false, n⟩ x c => .tstBit z n x c
  | .aluAndConst z ⟨true, n⟩ x c => .clrBit z n x c
  | .aluOrConst z ⟨false, n⟩ x c => .setBit z n x c
  | .aluXorConst z ⟨false, n⟩ x c => .tglBit z n x c
  | .aluPassYop z .zero x c => .passZero z x c
  | .aluIncYop z .zero x c => .passOne z x c
  | .aluDecYop z .zero x c => .passMinusOne z x c
  | .aluAddYop z .zero x c => .passXop z x c
  | .aluRsubYop z .zero x c => .negXop z x c
  | .macMulSsYop z .zero x c => .clearAcc z x c
  | .macAddRndYop z .zero x c => .roundAcc z x c
  | .dualCompute (.mac (.nop yx)) pd dd pmi pmm dmi dmm => .dualRead yx pd dd pmi pmm dmi dmm
  | .computeMove z (.alu f y x) .ar .ar => .noneAlu z f y x
  | .computeMove z (.mac f) .ar .ar => .noneMac z f
  | .stackControl false .push .keep0 .keep0 => .pushPc
  | .stackControl false .pop .keep0 .keep0 => .popPc
  | .stackControl false .keep0 .push .keep0 => .pushLoop
  | .stackControl false .keep0 .pop .keep0 => .popLoop
  | .stackControl false .keep0 .keep0 .push => .pushSts
  | .stackControl false .keep0 .keep0 .pop => .popSts
  | .stackControl true .keep0 .keep0 .keep0 => .flushCache
  | i => i

/-- Bits `lo + n - 1` to `lo` of a word. -/
abbrev field (w : Code) (lo n : Nat) : BitVec n := w.extractLsb' lo n

/-- Bit `lo` of a word as a truth value. -/
abbrev flag (w : Code) (lo : Nat) : Bool := field w lo 1 == 1#1

/-- The instruction if the bits the figure leaves blank are 0 (R189, decision D7). -/
def ifBlank (blank : Bool) (i : Instr) : Except DecodeError Instr :=
  if blank then .ok i else .error .blankBits

/-- The instruction of a core register code, unless the code is reserved (R147, U2). -/
def withReg (r : Option Reg) (k : Reg → Instr) : Except DecodeError Instr :=
  match r with
  | some r => .ok (k r)
  | none => .error .reservedRegister

def decodeType1 (w : Code) : Instr :=
  .dualCompute (Compute.ofFields (field w 13 5) (field w 8 5)) (PmDest.ofCode (field w 20 2)) (DmDest.ofCode (field w 18 2))
    (Slot.ofCode (field w 6 2)) (Slot.ofCode (field w 4 2)) (Slot.ofCode (field w 2 2)) (Slot.ofCode (field w 0 2))

def decodeType3 (w : Code) : Instr :=
  match flag w 21, flag w 20 with
  | true, false => .loadDagDirect (field w 4 16) (DagReg.ofCode (field w 0 4))
  | true, true => .storeDagDirect (field w 4 16) (DagReg.ofCode (field w 0 4))
  | false, false => .loadDregDirect (field w 4 16) (Dreg.ofCode (field w 0 4))
  | false, true => .storeDregDirect (field w 4 16) (Dreg.ofCode (field w 0 4))

def decodeType4 (w : Code) : Instr :=
  let k := if flag w 19 then Instr.computeWrite else Instr.computeRead
  k (Dag.ofCode (field w 20 1)) (ResultReg.ofCode (field w 18 1)) (Compute.ofFields (field w 13 5) (field w 8 5))
    (Dreg.ofCode (field w 4 4)) (Slot.ofCode (field w 2 2)) (Slot.ofCode (field w 0 2))

def decodeType8 (w : Code) : Instr :=
  .computeMove (ResultReg.ofCode (field w 18 1)) (Compute.ofFields (field w 13 5) (field w 8 5))
    (Dreg.ofCode (field w 4 4)) (Dreg.ofCode (field w 0 4))

/-- Types 9 and 9a (R158, R159): bits 5:4 = 10 is Type 9a; else an ALU code takes form (a) or (b) by bits 5:4, a
multiplier code form (a) or (d) by bits 7:4, and AMF 00000 form (a) only. -/
def decodeType9 (w : Code) : Except DecodeError Instr :=
  let z := ResultReg.ofCode (field w 18 1)
  let c := Cond.ofCode (field w 0 4)
  let f := AluFn.ofCode (field w 13 4)
  if field w 4 2 = 0b10#2 then
    if field w 6 2 = 0#2 then
      let y0 := flag w 12
      let x := Dreg.ofCode (field w 8 4)
      let y := Dreg.ofCode (field w 0 4)
      if flag w 17 then .ok (Instr.aluReg f z y0 x y)
      else match macOfCode (field w 13 4) with
        | none => .ok (.regNop z y0 x y)
        | some (op, fmt) => .ok (.macReg op fmt z y0 x y)
    else .error .reservedForm
  else if flag w 17 then
    let x := AluXop.ofCode (field w 8 3)
    if flag w 4 then
      .ok (.aluConst f z ⟨flag w 5, field w 11 2 ++ field w 6 2⟩ x c)
    else if field w 6 2 = 0#2 then .ok (.aluYop f z (AluYop.ofCode (field w 11 2)) x c)
    else .error .reservedForm
  else
    let x := MacXop.ofCode (field w 8 3)
    match macOfCode (field w 13 4) with
    | none =>
      if field w 4 4 = 0#4 then .ok (.condNop (field w 18 1 ++ field w 8 5) c) else .error .reservedForm
    | some (op, fmt) =>
      if field w 4 4 = 0#4 then .ok (.macYop op fmt z (MacYop.ofCode (field w 11 2)) x c)
      else if field w 4 4 = 1#4 ∧ field w 11 2 = 0#2 then .ok (.macSq op fmt z x c)
      else .error .reservedForm

def decodeType10a (w : Code) : Instr :=
  let k := if flag w 2 then Instr.callRel16 else Instr.jumpRel16
  k (flag w 3) (field w 0 2 ++ field w 4 14)

def decodeType11 (w : Code) : Except DecodeError Instr :=
  if field w 0 4 = 0b1110#4 then .ok (.doUntilCe (field w 4 12))
  else if field w 0 4 = 0b1111#4 then .ok (.doForever (field w 4 12))
  else .error .reservedTerm

def decodeType12 (w : Code) : Instr :=
  let k := if flag w 11 then Instr.shiftWrite else Instr.shiftRead
  k (Dag.ofCode (field w 16 1)) (ShiftFn.ofCode (field w 12 4)) (ShiftXop.ofCode (field w 8 3))
    (Dreg.ofCode (field w 4 4)) (Slot.ofCode (field w 2 2)) (Slot.ofCode (field w 0 2))

def decodeType17 (w : Code) : Except DecodeError Instr :=
  if field w 12 4 = 0#4 then
    match Reg.ofCode (field w 10 2) (field w 4 4), Reg.ofCode (field w 8 2) (field w 0 4) with
    | some d, some src => .ok (.moveReg d src)
    | _, _ => .error .reservedRegister
  else .error .blankBits

def decodeType18 (w : Code) : Instr :=
  .modeControl (ModeField.ofCode (field w 14 2)) (ModeField.ofCode (field w 12 2)) (ModeField.ofCode (field w 10 2))
    (ModeField.ofCode (field w 8 2)) (ModeField.ofCode (field w 6 2)) (ModeField.ofCode (field w 4 2))
    (ModeField.ofCode (field w 2 2)) (ModeField.ofCode (field w 0 2))

def decodeType19 (w : Code) : Except DecodeError Instr :=
  let k := if flag w 14 then Instr.callInd else Instr.jumpInd
  ifBlank (field w 8 5 = 0#5 ∧ field w 0 2 = 0#2)
    (k (flag w 15) (Dag.ofCode (field w 13 1)) (Cond.ofCode (field w 4 4)) (Slot.ofCode (field w 2 2)))

/-- Type 20 (R170, R460): Q must be 0 in an RTS. -/
def decodeType20 (w : Code) : Except DecodeError Instr :=
  let db := flag w 15
  let c := Cond.ofCode (field w 4 4)
  if flag w 14 then
    ifBlank (field w 8 5 = 0#5 ∧ field w 0 4 = 0#4) (.rti db (flag w 13) c)
  else ifBlank (field w 8 6 = 0#6 ∧ field w 0 4 = 0#4) (.rts db c)

/-- Types 21 (bit 15 = 1) and 21a (R171, R172). -/
def decodeType21 (w : Code) : Except DecodeError Instr :=
  let g := Dag.ofCode (field w 13 1)
  let i := Slot.ofCode (field w 2 2)
  let clear := field w 14 1 = 0#1 ∧ field w 12 1 = 0#1
  if flag w 15 then
    ifBlank (clear ∧ field w 4 8 = 0#8) (.modify g i (Slot.ofCode (field w 0 2)))
  else ifBlank (clear ∧ field w 0 2 = 0#2) (.modifyImm g (field w 4 8) i)

/-- Types 22 (bit 14 = 0) and 22a (R173, R174); the blank bits of the second word `v` are ignored (R189). -/
def decodeType22 (w v : Code) : Except DecodeError Instr :=
  let g := Dag.ofCode (field w 13 1)
  let i := Slot.ofCode (field w 2 2)
  let m := Slot.ofCode (field w 0 2)
  if field w 14 1 = 0#1 then
    ifBlank (field w 12 1 = 0#1) (.storeImm16 g i m (field v 12 8 ++ field w 4 8))
  else ifBlank (field w 12 1 = 0#1) (.storeImm24 g i m (field v 12 8 ++ field w 4 8 ++ field v 4 8))

def decodeType26 (w : Code) : Except DecodeError Instr :=
  ifBlank (field w 8 8 = 0#8 ∧ field w 2 1 = 0#1)
    (.stackControl (flag w 7) (StackField.ofCode (field w 5 2)) (StackField.ofCode (field w 3 2))
      (StackField.ofCode (field w 0 2)))

/-- Type 29 (R179): the data register's code is DRL:DRU, bits 1:0 above bits 15:14. -/
def decodeType29 (w : Code) : Instr :=
  let k := match flag w 16, flag w 12 with
    | true, false => Instr.immReadPost
    | true, true => Instr.immWritePost
    | false, false => Instr.immReadPre
    | false, true => Instr.immWritePre
  k (Dag.ofCode (field w 13 1)) (Dreg.ofCode (field w 0 2 ++ field w 14 2)) (field w 4 8) (Slot.ofCode (field w 2 2))

/-- Type 32 with MS, U and D (R182). -/
def decodeType32 (w : Code) : Except DecodeError Instr :=
  let k := match flag w 15, flag w 14, flag w 12 with
    | false, true, false => Instr.dmReadPost
    | false, true, true => Instr.dmWritePost
    | false, false, false => Instr.dmReadPre
    | false, false, true => Instr.dmWritePre
    | true, true, false => Instr.pmReadPost
    | true, true, true => Instr.pmWritePost
    | true, false, false => Instr.pmReadPre
    | true, false, true => Instr.pmWritePre
  if field w 10 1 = 0#1 then
    withReg (Reg.ofCode (field w 8 2) (field w 4 4))
      fun r => k (Dag.ofCode (field w 13 1)) r (Slot.ofCode (field w 2 2)) (Slot.ofCode (field w 0 2))
  else .error .blankBits

/-- Type 32a (R183): bit 11 = 1 with MS = 0 and D = 1; RGP 01 or 10, DAGREG 0000 to 1011. -/
def decodeType32a (w : Code) : Except DecodeError Instr :=
  let k := if flag w 14 then Instr.dagStorePost else Instr.dagStorePre
  let store (grp : Dag) : Except DecodeError Instr :=
    match DagKind.ofCode (field w 6 2) with
    | some kind =>
      .ok (k (Dag.ofCode (field w 13 1)) grp kind (Slot.ofCode (field w 4 2)) (Slot.ofCode (field w 2 2))
        (Slot.ofCode (field w 0 2)))
    | none => .error .illegalOperand
  if field w 15 1 = 0#1 ∧ flag w 12 ∧ field w 10 1 = 0#1 then
    if field w 8 2 = 1#2 then store .dag1
    else if field w 8 2 = 2#2 then store .dag2
    else .error .illegalOperand
  else .error .blankBits

def decodeType34 (w : Code) : Instr :=
  let k := if flag w 12 then Instr.ioWrite else Instr.ioRead
  k (field w 13 2 ++ field w 4 8) (Dreg.ofCode (field w 0 4))

def decodeType35 (w : Code) : Except DecodeError Instr :=
  let k := if flag w 12 then Instr.sysWrite else Instr.sysRead
  ifBlank (field w 13 2 = 0#2) (k (field w 4 8) (Dreg.ofCode (field w 0 4)))

/-- Type 36 (R187); the blank bits of the second word `v` are ignored (R189). -/
def decodeType36 (w v : Code) : Except DecodeError Instr :=
  let k := if flag w 12 then Instr.longCall else Instr.longJump
  ifBlank (field w 13 3 = 0#3) (k (field w 4 8 ++ field v 4 16) (Cond.ofCode (field w 0 4)))

def decodeType37 (w : Code) : Except DecodeError Instr :=
  let k := if flag w 5 then Instr.clrInt else Instr.setInt
  ifBlank (field w 6 9 = 0#9 ∧ field w 4 1 = 0#1) (k (field w 0 4))

/-- The words with bits 23:16 = 00000011: DIVS, DIVQ, SAT (R175 to R177). -/
def decodeType23to25 (w : Code) : Except DecodeError Instr :=
  let x := AluXop.ofCode (field w 8 3)
  if field w 13 3 = 0b100#3 then
    match DivYop.ofCode (field w 11 2) with
    | some y => ifBlank (field w 0 8 = 0#8) (.divs y x)
    | none => .error .reservedDivs
  else if field w 11 5 = 0b11010#5 then ifBlank (field w 0 8 = 0#8) (.divq x)
  else if field w 15 1 = 0#1 then
    ifBlank (field w 0 14 = 0#14) (if flag w 14 then .satSr else .satMr)
  else .error .unassigned

/-- The words with bits 23:20 = 0000, by the opcode map of R142. -/
def decodeLow (w v : Code) : Except DecodeError Instr :=
  match field w 16 4 with
  | 0 => ifBlank (field w 4 12 = 0#12) (.nop (field w 0 4))
  | 1 => decodeType21 w
  | 2 =>
    if field w 15 1 = 0#1 then ifBlank (field w 4 11 = 0#11) (.idle (field w 0 4)) else .error .unassigned
  | 3 => decodeType23to25 w
  | 4 => decodeType26 w
  | 5 => decodeType36 w v
  | 6 => if flag w 15 then .ok (decodeType34 w) else decodeType35 w
  | 7 => if flag w 15 then decodeType22 w v else decodeType37 w
  | 8 => .ok (decodeType29 w)
  | 9 => .ok (decodeType29 w)
  | 10 => decodeType20 w
  | 11 => decodeType19 w
  | 12 => .ok (decodeType18 w)
  | 13 => decodeType17 w
  | 14 =>
    ifBlank (field w 4 4 = 0#4)
      (.condShift (ShiftFn.ofCode (field w 12 4)) (Dreg.ofCode (field w 8 4)) (Cond.ofCode (field w 0 4)))
  | _ => Instr.immShift (ShiftFn.ofCode (field w 12 4)) (Dreg.ofCode (field w 8 4)) (field w 0 8)

/-- The words with bits 23:20 = 0001, by the opcode map of R142. -/
def decodeMid (w : Code) : Except DecodeError Instr :=
  match field w 16 4 with
  | 0 => withReg (Reg.ofCode 3#2 (field w 0 4))
      fun | .g3 r => .loadReg3Imm (field w 4 12) r | _ => .nop 0
  | 2 => .ok (decodeType12 w)
  | 3 => .ok (decodeType12 w)
  | 4 => .ok (.shiftMove (ShiftFn.ofCode (field w 12 4)) (Dreg.ofCode (field w 8 4)) (Dreg.ofCode (field w 4 4))
      (Dreg.ofCode (field w 0 4)))
  | 5 => if flag w 11 then decodeType32a w else decodeType32 w
  | 6 => decodeType11 w
  | 8 | 9 | 10 | 11 =>
    .ok (.jumpRel13 (flag w 17) (field w 4 13) (Cond.ofCode (field w 0 4)))
  | 12 | 13 | 14 | 15 => .ok (decodeType10a w)
  | _ => .error .unassigned

/-- The instruction type by the leading bits (R142), then its fields. `v` is the second word, which only Types 22, 22a
and 36 read. -/
def decodeFields (w v : Code) : Except DecodeError Instr :=
  match field w 20 4 with
  | 0 => decodeLow w v
  | 1 => decodeMid w
  | 2 => if flag w 19 then .ok (decodeType8 w) else decodeType9 w
  | 3 => match Reg2.ofCode (field w 0 4) with
    | some r => .ok (.loadReg2Imm (field w 4 16) r)
    | none => .error .reservedRegister
  | 4 => .ok (.loadDregImm (field w 4 16) (Dreg.ofCode (field w 0 4)))
  | 5 => .ok (.loadReg1Imm (field w 4 16) (Reg1.ofCode (field w 0 4)))
  | 6 | 7 => .ok (decodeType4 w)
  | 8 | 9 | 10 | 11 => .ok (decodeType3 w)
  | _ => .ok (decodeType1 w)

/-- Decode one instruction: its fields, the operand restrictions (U8, U9, U12), and the most specific row. -/
def decodeWords (w v : Code) : Except DecodeError Instr :=
  match decodeFields w v with
  | .ok i => if i.wellFormed then .ok (specialise i) else .error .illegalOperand
  | .error e => .error e

/-- Whether a first word is that of a two-word instruction: Type 22, 22a or 36 by its leading bits (R140, R142). -/
def twoWords (w : Code) : Bool :=
  field w 20 4 = 0#4 && (field w 16 4 = 5#4 || field w 16 4 = 7#4 && flag w 15)

/-- Read one instruction from the words of a program, and answer the words after it. -/
def decode : List Code → Except DecodeError (Instr × List Code)
  | [] => .error .truncated
  | w :: rest =>
    if twoWords w then
      match rest with
      | [] => .error .truncated
      | v :: rest => (decodeWords w v).map fun i => (i, rest)
    else (decodeWords w 0).map fun i => (i, rest)

/-- The host's question: the instruction of the words whose bits are `w`, first word in bits 23:0, second word in
bits 47:24; a second word of which `nbits` says nothing is 0. -/
def decodeTableWord (nbits w : Nat) : Option Instr :=
  let w := w % 2 ^ nbits
  match decode [BitVec.ofNat 24 w, BitVec.ofNat 24 (w / 2 ^ 24)] with
  | .ok (i, _) => some i
  | .error _ => none

end Sys2Proof
end

