-- ==== Sys2Proof/Machine/Params.lean ====
section
/-! DEFINITION. What the spec takes as parameters of a device (spec/00_scope.md R7, spec/92_eei_decisions.md section 2):
the memory map, VECTOR_BASE and RESET_PC. They are data of the state that no instruction changes, so a statement about
every state holds for every device; `Params.standard` holds the spec's own defaults. -/

namespace Sys2Proof.Machine

/-- The width of a memory location (R101). -/
inductive MemWidth where
  | w16 | w24
  deriving DecidableEq, Repr

/-- A run of populated addresses `first` to `last` of one width (MEM_WIDTH, MEM_POPULATED), with the byte a 24-bit read
of a 16-bit location delivers to PX (PX_FILL). -/
structure Region where
  first : Addr
  last : Addr
  width : MemWidth
  pxFill : BitVec 8
  deriving DecidableEq, Repr

/-- The parameters. An address in no region has no memory; the first region that holds an address counts. -/
structure Params where
  regions : List Region
  vectorBase : Addr
  resetPc : Addr
  deriving DecidableEq, Repr

/-- The region of an address (R112). -/
def Params.region (p : Params) (a : Addr) : Option Region :=
  p.regions.find? fun r => r.first.ule a && a.ule r.last

/-- MEM_WIDTH where MEM_POPULATED, none elsewhere. -/
def Params.width (p : Params) (a : Addr) : Option MemWidth :=
  (p.region a).map (·.width)

/-- PX_FILL (R107). -/
def Params.pxFill (p : Params) (a : Addr) : BitVec 8 :=
  match p.region a with
  | some r => r.pxFill
  | none => 0

/-- The spec's defaults (spec/92_eei_decisions.md section 2, D16, D34, D40): page 0 offsets 0x0000 to 0x7FFF are 24-bit,
the rest of page 0 and page 1 is 16-bit, no other page is populated, PX_FILL = 0, VECTOR_BASE = 0, RESET_PC = 0
(DESIGN CHOICE, log entry 2). -/
def Params.standard : Params where
  regions := [⟨0x000000#24, 0x007FFF#24, .w24, 0#8⟩, ⟨0x008000#24, 0x01FFFF#24, .w16, 0#8⟩]
  vectorBase := 0x000000#24
  resetPc := 0x000000#24

end Sys2Proof.Machine
end

