-- ==== Sys2Proof/Machine/State.lean ====
section
/-! DEFINITION. The state of the machine as plain data (spec/10_state.md R20, R72), its reset (R551), and the reasons a
step can stop. -/

namespace Sys2Proof.Machine

/-! ## Register sets -/

/-- One set of data registers (R22 to R27); each is 16 bits. -/
structure DataRegs where
  ax0 : Word
  ax1 : Word
  ay0 : Word
  ay1 : Word
  ar : Word
  af : Word
  mx0 : Word
  mx1 : Word
  my0 : Word
  my1 : Word
  mr0 : Word
  mr1 : Word
  mr2 : Word
  si : Word
  se : Word
  sb : Word
  sr0 : Word
  sr1 : Word
  sr2 : Word
  deriving DecidableEq, Repr

/-- Four like things, by slot number (R149). -/
structure Quad (α : Type) where
  q0 : α
  q1 : α
  q2 : α
  q3 : α
  deriving DecidableEq, Repr

/-- The registers of one data address generator (R31, R32): index, modify, length and base. -/
structure DagRegs where
  i : Quad Word
  m : Quad Word
  l : Quad Word
  b : Quad Word
  deriving DecidableEq, Repr

/-- One set of DAG registers (R34): DAG1 holds I0 to I3 and so on, DAG2 I4 to I7 and so on. -/
structure DagBank where
  dag1 : DagRegs
  dag2 : DagRegs
  deriving DecidableEq, Repr

/-- A register set that exists twice (R24, R34). -/
structure Banked (α : Type) where
  primary : α
  secondary : α
  deriving DecidableEq, Repr

/-- LPSTACKP: the nine bits it stores, bit 15 and bits 7:0 (R65). -/
structure LoopPage where
  forever : Bool
  page : BitVec 8
  deriving DecidableEq, Repr

/-! ## Stacks and sequencer -/

/-- An entry of the three loop stacks, which move together (R61). -/
structure LoopEntry where
  first : Addr
  last : Addr
  forever : Bool
  count : Word
  deriving DecidableEq, Repr

/-- An entry of the status stack (R61). -/
structure StatusEntry where
  astat : BitVec 9
  mstat : BitVec 7
  deriving DecidableEq, Repr

/-- A taken delayed branch whose slots are being executed (DBPEND, R59, R440). -/
structure DelayedBranch where
  target : Addr
  resume : Addr
  deriving DecidableEq, Repr

/-- An effect-latency window (R71, R560): the values, beside the architectural one, that a use may still see, and for
how many more instructions, the one being executed included. Closed: no values. -/
structure Window (α : Type) where
  olds : List α
  left : Nat
  deriving DecidableEq, Repr

/-- The one-instruction freedom of an SSTAT read after a stack operation (R562): the bits that may still be read as an
earlier 0 (`lows`), those that may still be read as an earlier 1 (`highs`), and for how many more instructions. -/
structure SstatWindow where
  lows : BitVec 8
  highs : BitVec 8
  left : Nat
  deriving DecidableEq, Repr

/-- The effect-latency windows, one for each field of Table 6-2 whose value the machine uses (R560). -/
structure Windows where
  astat : Window (BitVec 9)
  ccode : Window (BitVec 4)
  cntr : Window Word
  icntl : Window Word
  imask : Window Word
  secReg : Window Bool
  bitRev : Window Bool
  arSat : Window Bool
  mMode : Window Bool
  secDag : Window Bool
  sstat : SstatWindow
  deriving DecidableEq, Repr

/-! ## Memory and the outside -/

/-- Memory (R100, R101) as bytes in one canonical form: location `a` has its bits 7:0 at key 3·a, 15:8 at 3·a + 1 and
23:16 at 3·a + 2; keys strictly rise and no byte 0 is listed, since an unlisted byte reads 0 (log entry 3). -/
structure Memory where
  cells : List Host.Cell
  deriving DecidableEq, Repr

/-- A location written since the last cache flush (R123): its address, the word it held before the write, and, once
FLUSH CACHE has executed, for how many more instructions a fetch may still see that word. -/
structure StaleWord where
  addr : Addr
  old : Code
  due : Option Nat
  deriving DecidableEq, Repr

/-- What the outside world does between two steps (R58): hardware reset, interrupt requests `irq(n)` (bit n), and the
levels of the flag pins PF0 to PF13. -/
structure HostInput where
  reset : Bool
  irq : Word
  pf : BitVec 14
  deriving DecidableEq, Repr

/-- A write the core made outside itself (R111, R113): `IoWrite` or `SysRegWrite`. -/
inductive HostWrite where
  | io (a : BitVec 18) (v : Word)
  | sys (a : BitVec 8) (v : Word)
  deriving DecidableEq, Repr

/-! ## The state -/

/-- The machine's state: the record of R72, field by field, then what the model adds (each marked). -/
structure State where
  /-- AX0 … SR2, the two sets (R22 to R27) -/
  data : Banked DataRegs
  /-- I0 … B7, the two sets (R31, R32, R34) -/
  dags : Banked DagBank
  /-- PX (R28) -/
  px : BitVec 8
  /-- the page registers (R33) -/
  dmpg1 : BitVec 8
  dmpg2 : BitVec 8
  iopg : BitVec 8
  ijpg : BitVec 8
  /-- PC (R30) -/
  pc : Addr
  /-- ASTAT (R40), MSTAT (R44), and the stored bit of SSTAT, STKOVERFLOW (R50) -/
  astat : BitVec 9
  mstat : BitVec 7
  sov : Bool
  /-- IMASK, IRPTL, ICNTL (R45 to R47), CNTR (R48), CCODE (R49) -/
  imask : Word
  irptl : Word
  icntl : Word
  cntr : Word
  ccode : BitVec 4
  /-- the stack access registers (R62 to R65) -/
  stacka : Word
  stackp : BitVec 8
  lpstacka : Word
  lpstackp : LoopPage
  /-- the hardware stacks, top first (R60, R61) -/
  pcStack : List Addr
  loopStack : List LoopEntry
  statusStack : List StatusEntry
  /-- DBPEND, IDLE, INSERVICE (R59) -/
  dbpend : Option DelayedBranch
  idle : Bool
  inService : Word
  /-- WINDOWS (R71) -/
  windows : Windows
  /-- MEM (R101) -/
  mem : Memory
  /-- MODEL: the words an instruction fetch may still see instead of memory (R123, V7) -/
  stale : List StaleWord
  /-- MODEL: MEM_WIDTH, MEM_POPULATED, PX_FILL, VECTOR_BASE, RESET_PC (R7); never written -/
  params : Params
  /-- MODEL: the current levels of PF0 to PF13 (R58) -/
  pf : BitVec 14
  /-- MODEL: the host events still to come, the next first; each step takes one (R11, R58) -/
  inputs : List HostInput
  /-- MODEL: the writes made to the I/O and system control spaces, newest first (R111, R113) -/
  outputs : List HostWrite
  /-- MODEL: the branch target of the instruction being executed (`redirect` of R431); none between steps -/
  redirect : Option Addr
  /-- MODEL: counts steps; selects the free values (Config.lean) -/
  tick : Nat
  deriving DecidableEq, Repr

/-- The machine stops with a fault: never. The spec defines no trap, fault or abort (R500: "There are none"), so this
type has no constructor. -/
inductive Fault where
  deriving DecidableEq, Repr

/-- The machine refuses to go on: the program is outside what the spec defines (R12 `refuse`; the U numbers are
spec/93_implementation_defined.md's). Every refusal is safe: the hardware does something that the spec does not say. -/
inductive Refusal where
  /-- an instruction without a meaning yet; raised by `exec` in Dispatch.lean only. Safe. -/
  | notModelled (mnemonic : String)
  /-- U1 to U9, U12: the fetched word is no instruction; raised by `step`. Safe. -/
  | undecodable (why : DecodeError)
  /-- U10, U13: an instruction word would be fetched from an address that holds no 24-bit location; raised by `step`.
  Safe. -/
  | fetchWidth (a : Addr)
  /-- U11: an instruction that may not stand in a delay slot; raised by `step`. Safe. -/
  | delaySlot
  /-- U11: a two-word instruction in the second delay slot; raised by `step`. Safe. -/
  | delaySlotTwoWords
  /-- U8: a move or load whose destination is SSTAT; raised by `exec` on a term that is not well formed. Safe. -/
  | readOnlyRegister
  /-- U9: a Type 32a term that is not well formed; raised by `exec`. Safe. -/
  | dagStoreOperands
  /-- U12: DO UNTIL with offset 0; raised by `exec` on a term that is not well formed. Safe. -/
  | loopOffset
  deriving DecidableEq, Repr

/-! ## Reset -/

/-- Data registers after reset: no value in the spec (R551); zero, DESIGN CHOICE, log entry 1. -/
def DataRegs.zero : DataRegs :=
  ⟨0, 0, 0, 0, 0, 0, 0, 0, 0, 0, 0, 0, 0, 0, 0, 0, 0, 0, 0⟩

def Quad.zero : Quad Word := ⟨0, 0, 0, 0⟩

/-- DAG registers after reset: no value in the spec (R551); zero, DESIGN CHOICE, log entry 1. -/
def DagRegs.zero : DagRegs := ⟨.zero, .zero, .zero, .zero⟩

/-- A closed window. -/
def Window.closed {α : Type} : Window α := ⟨[], 0⟩

/-- No window open (R551). -/
def Windows.closed : Windows where
  astat := .closed
  ccode := .closed
  cntr := .closed
  icntl := .closed
  imask := .closed
  secReg := .closed
  bitRev := .closed
  arSat := .closed
  mMode := .closed
  secDag := .closed
  sstat := ⟨0, 0, 0⟩

/-- The machine right after reset (R551). The registers whose row says "unspecified" (data and DAG registers, PX, CCODE,
CNTR and the stack access registers) hold zero: DESIGN CHOICE, log entry 1. -/
def State.reset : State where
  data := ⟨.zero, .zero⟩
  dags := ⟨⟨.zero, .zero⟩, ⟨.zero, .zero⟩⟩
  px := 0
  dmpg1 := 0
  dmpg2 := 0
  iopg := 0
  ijpg := 0
  pc := Params.standard.resetPc
  astat := 0
  mstat := 0
  sov := false
  imask := 0
  irptl := 0
  icntl := 0
  cntr := 0
  ccode := 0
  stacka := 0
  stackp := 0
  lpstacka := 0
  lpstackp := ⟨false, 0⟩
  pcStack := []
  loopStack := []
  statusStack := []
  dbpend := none
  idle := false
  inService := 0
  windows := .closed
  mem := ⟨[]⟩
  stale := []
  params := .standard
  pf := 0
  inputs := []
  outputs := []
  redirect := none
  tick := 0

end Sys2Proof.Machine
end

