-- ==== Sys2Proof/Machine/Memory.lean ====
section
/-! DEFINITION. The byte store behind `MEM` and its canonical form (spec/20_memory.md R100, R101; log entry 3). -/

namespace Sys2Proof.Machine

/-- What a byte that no write has reached holds (log entry 3): DESIGN CHOICE. -/
def unlistedByte : BitVec 8 := 0x00#8

/-- The byte a list of cells gives a key. -/
def lookupCell : List Host.Cell → Nat → BitVec 8
  | [], _ => unlistedByte
  | (k, b) :: rest, key => if k = key then b else lookupCell rest key

/-- The list of cells after key `key` is given the byte `v`: sorted in, and dropped where it equals `unlistedByte`. -/
def putCell (key : Nat) (v : BitVec 8) : List Host.Cell → List Host.Cell
  | [] => if v = unlistedByte then [] else [(key, v)]
  | (k, b) :: rest =>
    if key < k then
      if v = unlistedByte then (k, b) :: rest else (key, v) :: (k, b) :: rest
    else if key = k then
      if v = unlistedByte then rest else (key, v) :: rest
    else (k, b) :: putCell key v rest

/-- Keys strictly rise from `low` on, end within the address space, and no unlisted byte is stored. -/
def cellsFrom (low : Nat) : List Host.Cell → Bool
  | [] => true
  | (k, b) :: rest => decide (low ≤ k ∧ k < 3 * 2 ^ 24) && b != unlistedByte && cellsFrom (k + 1) rest

/-- The canonical form of a memory. -/
def Memory.wf (m : Memory) : Bool := cellsFrom 0 m.cells

def Memory.readByte (m : Memory) (key : Nat) : BitVec 8 := lookupCell m.cells key

def Memory.writeByte (m : Memory) (key : Nat) (v : BitVec 8) : Memory := ⟨putCell key v m.cells⟩

/-- The key of bits 7:0 of a location; bits 15:8 and 23:16 have the next two keys. -/
def byteKey (a : Addr) : Nat := 3 * a.toNat

/-- The 24 bits held for a location; of a 16-bit location only bits 15:0 are its content. -/
def Memory.readLoc (m : Memory) (a : Addr) : Code :=
  m.readByte (byteKey a + 2) ++ m.readByte (byteKey a + 1) ++ m.readByte (byteKey a)

def Memory.writeLoc (m : Memory) (a : Addr) (v : Code) : Memory :=
  ((m.writeByte (byteKey a) (v.extractLsb' 0 8)).writeByte (byteKey a + 1) (v.extractLsb' 8 8)).writeByte
    (byteKey a + 2) (v.extractLsb' 16 8)

end Sys2Proof.Machine
end

