-- ==== Sys2Proof/Machine/Ops.lean ====
section
/-! DEFINITION. The named operations over the state: effective values inside effect-latency windows, the register sets,
reads and writes of core registers, memory, address generation, the stacks, conditions, branches, and taking an
interrupt and returning from one. Each is the pseudocode helper of the rule it cites. -/

namespace Sys2Proof.Machine

/-- What a meaning answers. -/
abbrev Result := Host.Outcome State Fault Refusal

/-! ## Free values and effect-latency windows (R12, R560) -/

/-- A free value at this step (R12). -/
def State.free (s : State) (w : Nat) (site : Site) : BitVec w := Config.free w s.tick site

/-- One of several candidates, not determined which: the architectural value, or an earlier one (R560). -/
def choose {α : Type} (cur : α) (olds : List α) (k : Nat) : α :=
  match olds with
  | [] => cur
  | o :: os => (cur :: o :: os).getD (k % (os.length + 2)) cur

/-- The value a use sees through a window: the architectural value, or inside the window any candidate (R560). -/
def Window.see {α : Type} (w : Window α) (cur : α) (tick : Nat) (site : Site) : α :=
  choose cur w.olds (Config.pick tick site)

/-- The window after a write by a method of latency `n ≥ 1`, `old` being the value before the write (R560): open for the
rest of this instruction and `n` more. -/
def Window.write {α : Type} (w : Window α) (old : α) (n : Nat) : Window α := ⟨old :: w.olds, n + 1⟩

/-- The window when one more instruction has executed. -/
def Window.age {α : Type} (w : Window α) : Window α :=
  match w.left with
  | 0 => .closed
  | 1 => .closed
  | n + 2 => ⟨w.olds, n + 1⟩

def SstatWindow.age (w : SstatWindow) : SstatWindow :=
  match w.left with
  | 0 => ⟨0, 0, 0⟩
  | 1 => ⟨0, 0, 0⟩
  | n + 2 => ⟨w.lows, w.highs, n + 1⟩

/-- Every window when one more instruction has executed (R560). -/
def Windows.age (w : Windows) : Windows where
  astat := w.astat.age
  ccode := w.ccode.age
  cntr := w.cntr.age
  icntl := w.icntl.age
  imask := w.imask.age
  secReg := w.secReg.age
  bitRev := w.bitRev.age
  arSat := w.arSat.age
  mMode := w.mMode.age
  secDag := w.secDag.age
  sstat := w.sstat.age

/-- ASTAT as a use sees it. -/
def State.astatEff (s : State) (u : AstatUse) : BitVec 9 := s.windows.astat.see s.astat s.tick (.astat u)

def State.ccodeEff (s : State) : BitVec 4 := s.windows.ccode.see s.ccode s.tick .ccode

/-- CNTR as `not_ce` sees it (R433, R435). -/
def State.cntrEff (s : State) : Word := s.windows.cntr.see s.cntr s.tick .cntr

def State.icntlEff (s : State) (u : IcntlUse) : Word := s.windows.icntl.see s.icntl s.tick (.icntl u)

/-- IMASK as the test of interrupt `n` sees it (R505). -/
def State.imaskEff (s : State) (n : Nat) : Word := s.windows.imask.see s.imask s.tick (.imask n)

/-- MSTAT.SEC_REG as a use of a data register sees it (R24). -/
def State.secReg (s : State) (r : Role) : Bool := s.windows.secReg.see (s.mstat.getLsbD 0) s.tick (.dataBank r)

/-- MSTAT.BIT_REV (R104). -/
def State.bitRev (s : State) : Bool := s.windows.bitRev.see (s.mstat.getLsbD 1) s.tick .bitReverse

/-- MSTAT.AV_LATCH, which has no latency (R225, R560). -/
def State.avLatch (s : State) : Bool := s.mstat.getLsbD 2

/-- MSTAT.AR_SAT (R225). -/
def State.arSat (s : State) : Bool := s.windows.arSat.see (s.mstat.getLsbD 3) s.tick .saturate

/-- MSTAT.M_MODE: integer mode (R273). -/
def State.mMode (s : State) : Bool := s.windows.mMode.see (s.mstat.getLsbD 4) s.tick .macMode

/-- MSTAT.SEC_DAG as a use of a DAG register sees it (R34). -/
def State.secDag (s : State) (g : Dag) (r : DagRole) : Bool :=
  s.windows.secDag.see (s.mstat.getLsbD 6) s.tick (.dagBank g r)

/-! ## Data registers (R22 to R27) -/

def DataRegs.get (r : DataRegs) : Dreg → Word
  | .ax0 => r.ax0 | .ax1 => r.ax1 | .mx0 => r.mx0 | .mx1 => r.mx1
  | .ay0 => r.ay0 | .ay1 => r.ay1 | .my0 => r.my0 | .my1 => r.my1
  | .mr2 => r.mr2 | .sr2 => r.sr2 | .ar => r.ar | .si => r.si
  | .mr1 => r.mr1 | .sr1 => r.sr1 | .mr0 => r.mr0 | .sr0 => r.sr0

def DataRegs.set (r : DataRegs) (d : Dreg) (v : Word) : DataRegs :=
  match d with
  | .ax0 => { r with ax0 := v } | .ax1 => { r with ax1 := v }
  | .mx0 => { r with mx0 := v } | .mx1 => { r with mx1 := v }
  | .ay0 => { r with ay0 := v } | .ay1 => { r with ay1 := v }
  | .my0 => { r with my0 := v } | .my1 => { r with my1 := v }
  | .mr2 => { r with mr2 := v } | .sr2 => { r with sr2 := v }
  | .ar => { r with ar := v } | .si => { r with si := v }
  | .mr1 => { r with mr1 := v } | .sr1 => { r with sr1 := v }
  | .mr0 => { r with mr0 := v } | .sr0 => { r with sr0 := v }

/-- `reg_write` of a data register (R371): a load of MR1 or SR1 sign-extends into MR2 or SR2. -/
def DataRegs.load (r : DataRegs) (d : Dreg) (v : Word) : DataRegs :=
  match d with
  | .mr1 => { r with mr1 := v, mr2 := signFill v }
  | .sr1 => { r with sr1 := v, sr2 := signFill v }
  | d => r.set d v

/-- The accumulator MR (result) or SR (feedback) as 40 bits (R26, R271). -/
def DataRegs.acc (r : DataRegs) : ResultReg → Acc40
  | .result => r.mr2.extractLsb' 0 8 ++ r.mr1 ++ r.mr0
  | .feedback => r.sr2.extractLsb' 0 8 ++ r.sr1 ++ r.sr0

/-- A 40-bit write of an accumulator: xR2 gets bits 39:32 sign-extended (R26, R271). -/
def DataRegs.setAcc (r : DataRegs) (z : ResultReg) (v : Acc40) : DataRegs :=
  let low := v.extractLsb' 0 16
  let mid := v.extractLsb' 16 16
  let top := (v.extractLsb' 32 8).signExtend 16
  match z with
  | .result => { r with mr0 := low, mr1 := mid, mr2 := top }
  | .feedback => { r with sr0 := low, sr1 := mid, sr2 := top }

/-- An ALU result to AR or AF (R222). -/
def DataRegs.setAlu (r : DataRegs) (z : ResultReg) (v : Word) : DataRegs :=
  match z with
  | .result => { r with ar := v }
  | .feedback => { r with af := v }

def Banked.get {α : Type} (b : Banked α) (second : Bool) : α := if second then b.secondary else b.primary

def Banked.set {α : Type} (b : Banked α) (second : Bool) (v : α) : Banked α :=
  if second then { b with secondary := v } else { b with primary := v }

/-- The data registers a use names (R24). -/
def State.dataAt (s : State) (r : Role) : DataRegs := s.data.get (s.secReg r)

/-- The state with the data registers a use names changed. -/
def State.updData (s : State) (r : Role) (f : DataRegs → DataRegs) : State :=
  { s with data := s.data.set (s.secReg r) (f (s.dataAt r)) }

/-- A data register as an operand or a move source. -/
def State.dreg (s : State) (r : Role) (d : Dreg) : Word := (s.dataAt r).get d

/-- `reg_write` of a data register (R371). -/
def State.loadDreg (s : State) (r : Role) (d : Dreg) (v : Word) : State := s.updData r fun x => x.load d v

/-! ## DAG registers (R31, R32, R34) -/

def Quad.get {α : Type} (q : Quad α) : Slot → α
  | .s0 => q.q0 | .s1 => q.q1 | .s2 => q.q2 | .s3 => q.q3

def Quad.set {α : Type} (q : Quad α) (n : Slot) (v : α) : Quad α :=
  match n with
  | .s0 => { q with q0 := v } | .s1 => { q with q1 := v } | .s2 => { q with q2 := v } | .s3 => { q with q3 := v }

def DagBank.get (b : DagBank) : Dag → DagRegs
  | .dag1 => b.dag1 | .dag2 => b.dag2

def DagBank.set (b : DagBank) (g : Dag) (r : DagRegs) : DagBank :=
  match g with
  | .dag1 => { b with dag1 := r } | .dag2 => { b with dag2 := r }

/-- The registers of a DAG that a use names (R34). -/
def State.dagAt (s : State) (g : Dag) (r : DagRole) : DagRegs := (s.dags.get (s.secDag g r)).get g

/-- The state with the registers of a DAG that a use names changed. -/
def State.updDag (s : State) (g : Dag) (r : DagRole) (f : DagRegs → DagRegs) : State :=
  { s with dags := s.dags.set (s.secDag g r) ((s.dags.get (s.secDag g r)).set g (f (s.dagAt g r))) }

def DagRegs.setI (r : DagRegs) (n : Slot) (v : Word) : DagRegs := { r with i := r.i.set n v }
def DagRegs.setM (r : DagRegs) (n : Slot) (v : Word) : DagRegs := { r with m := r.m.set n v }
def DagRegs.setL (r : DagRegs) (n : Slot) (v : Word) : DagRegs := { r with l := r.l.set n v }
def DagRegs.setB (r : DagRegs) (n : Slot) (v : Word) : DagRegs := { r with b := r.b.set n v }

/-- An index, modify or length register of a DAG, by kind. -/
def DagRegs.get (r : DagRegs) (k : DagKind) (n : Slot) : Word :=
  match k with
  | .i => r.i.get n | .m => r.m.get n | .l => r.l.get n

def DagRegs.set (r : DagRegs) (k : DagKind) (n : Slot) (v : Word) : DagRegs :=
  match k with
  | .i => r.setI n v | .m => r.setM n v | .l => r.setL n v

/-- `I[i]` as an addressing use. -/
def State.index (s : State) (g : Dag) (i : Slot) : Word := (s.dagAt g .index).i.get i

/-- `M[m]` as an addressing use. -/
def State.modifier (s : State) (g : Dag) (m : Slot) : Word := (s.dagAt g .modify).m.get m

/-- A DAG register read by a move or a store. -/
def State.dagReg (s : State) (g : Dag) (k : DagKind) (n : Slot) : Word := (s.dagAt g .moveSource).get k n

/-- A DAG register written by a move or a load. -/
def State.loadDag (s : State) (g : Dag) (k : DagKind) (n : Slot) (v : Word) : State :=
  s.updDag g .moveDest fun x => x.set k n v

/-! ## Address generation (R103, R104, R395) -/

/-- The page register of a DAG (R103). -/
def State.page (s : State) : Dag → BitVec 8
  | .dag1 => s.dmpg1
  | .dag2 => s.dmpg2

/-- `dag_out` (R395): the 24-bit address put on the bus, the offset bit-reversed for DAG1 under BIT_REV (R104). -/
def State.dagOut (s : State) (g : Dag) (a : Word) : Addr :=
  match g with
  | .dag1 => s.dmpg1 ++ (if s.bitRev then bitrev16 a else a)
  | .dag2 => s.dmpg2 ++ a

/-- The circular wrap (R395, D20): one correction, on integers, against B and B + L. -/
def wrapIndex (t base length : Int) : Int :=
  if length = 0 then t
  else if t ≥ base + length then t - length
  else if t < base then t + length
  else t

/-- `dag_next` (R395): index register `i` modified by the signed value `m`, with circular wrap when L ≠ 0. -/
def State.dagNext (s : State) (g : Dag) (i : Slot) (m : Word) : Word :=
  BitVec.ofInt 16 (wrapIndex ((s.index g i).toNat + m.toInt) ((s.dagAt g .base).b.get i).toNat
    ((s.dagAt g .length).l.get i).toNat)

/-- `I[i] <- v` as the update of a postmodify access or MODIFY. -/
def State.setIndex (s : State) (g : Dag) (i : Slot) (v : Word) : State := s.updDag g .update fun x => x.setI i v

/-! ## Memory (R107, R112, R123) -/

/-- `MemRead(A, 16)` (R107): over the DM bus; an address without memory reads any value (V8). -/
def State.read16 (s : State) (a : Addr) : Word :=
  match s.params.width a with
  | some .w16 => (s.mem.readLoc a).extractLsb' 0 16
  | some .w24 => (s.mem.readLoc a).extractLsb' 8 16
  | none => s.free 16 (.noMemoryDm a)

/-- `MemRead(A, 24)` (R107): over the PM bus; the low byte of a 16-bit location is PX_FILL. -/
def State.read24 (s : State) (a : Addr) : Code :=
  match s.params.width a with
  | some .w24 => s.mem.readLoc a
  | some .w16 => (s.mem.readLoc a).extractLsb' 0 16 ++ s.params.pxFill a
  | none => s.free 24 (.noMemoryPm a)

/-- A 24-bit location written; until a cache flush a fetch may still see the word it held (R123, V7). -/
def State.put24 (s : State) (a : Addr) (v : Code) : State :=
  { s with mem := s.mem.writeLoc a v, stale := ⟨a, s.mem.readLoc a, none⟩ :: s.stale }

/-- `MemWrite(A, 16, v)` (R107): a 24-bit location gets v in bits 23:8 and 0 below; a write to an address without memory
is dropped (V8). -/
def State.write16 (s : State) (a : Addr) (v : Word) : State :=
  match s.params.width a with
  | some .w16 => { s with mem := s.mem.writeLoc a (0x00#8 ++ v) }
  | some .w24 => s.put24 a (v ++ 0x00#8)
  | none => s

/-- `MemWrite(A, 24, t)` (R107): a 16-bit location gets bits 23:8 of t. -/
def State.write24 (s : State) (a : Addr) (t : Code) : State :=
  match s.params.width a with
  | some .w16 => { s with mem := s.mem.writeLoc a (0x00#8 ++ t.extractLsb' 8 16) }
  | some .w24 => s.put24 a t
  | none => s

/-- The instruction word at an address (R102, R123): the 24-bit location's word or, if it was written since the last
cache flush, that or an earlier word; none where there is no 24-bit location (U10, U13). -/
def State.fetchWord (s : State) (a : Addr) : Option Code :=
  match s.params.width a with
  | some .w24 =>
    some (choose (s.mem.readLoc a) ((s.stale.filter fun e => e.addr == a).map (·.old)) (Config.pick s.tick (.fetch a)))
  | _ => none

/-- FLUSH CACHE (R123, R465): after six further instructions, or as early as a flush before it says, no fetch sees an
earlier word of the locations written up to now. -/
def State.flushCache (s : State) : State :=
  { s with stale := s.stale.map fun e => { e with due := some (min 7 (e.due.getD 7)) } }

/-- The list of stale words when one more instruction has executed. -/
def ageStale (l : List StaleWord) : List StaleWord :=
  l.filterMap fun e =>
    match e.due with
    | none => some e
    | some 0 => none
    | some 1 => none
    | some (n + 2) => some { e with due := some (n + 1) }

/-! ## SSTAT and the stacks (R50, R444, R512, R562) -/

/-- SSTAT, seven bits of it computed from the stack depths (R50). -/
def State.sstat (s : State) : BitVec 8 :=
  let p := s.pcStack.length
  let l := s.loopStack.length
  bit s.sov ++ bit (s.statusStack.length = 0) ++ bit (l = 8) ++ bit (l = 0) ++ 0#1 ++ bit (p ≥ 28 ∨ p ≤ 3)
    ++ bit (p = 33) ++ bit (p = 0)

/-- SSTAT as a move or a store reads it: directly after a stack operation the affected bits may still be the old ones,
each by itself (R562, V9). -/
def State.sstatRead (s : State) : BitVec 8 :=
  let w := s.windows.sstat
  if w.left = 0 then s.sstat
  else
    let old := s.free 8 .sstat
    (s.sstat &&& ~~~(old &&& w.lows)) ||| (~~~s.sstat &&& old &&& w.highs)

/-- A window in which the bits `bits` may still be read as in `old`, for `n` instructions (R562). -/
def SstatWindow.since (old bits : BitVec 8) (n : Nat) : SstatWindow := ⟨bits &&& ~~~old, bits &&& old, n⟩

/-- The SSTAT window that a stack operation of an executed instruction opens; `s` is the state before it, `bits` the
bits it leaves free (R562). -/
def State.openSstat (t s : State) (bits : BitVec 8) : State :=
  { t with windows := { t.windows with sstat := .since s.sstat bits 2 } }

/-- The SSTAT window that an interrupt entry opens for the routine's first instruction (R562), `s` being the state before
the entry. A window that is still open then, because a stack instruction or another entry came directly before, goes on
beside it, so that the read may also see the bits as they were before that (DEDUCED, log entry 7). -/
def State.entrySstat (s : State) : SstatWindow :=
  let w := s.windows.sstat
  let e := SstatWindow.since s.sstat 0xFF#8 1
  if w.left = 0 then e else ⟨w.lows ||| e.lows, w.highs ||| e.highs, 1⟩

/-- `overflow()` (R444): STKOVERFLOW, and the stack interrupt is requested. -/
def State.overflow (s : State) : State := { s with sov := true, irptl := putBit s.irptl 3 true }

/-- The level request of R512: with PCSTKE set, IRPTL[3] when the depth reaches `mark`. -/
def State.levelRequest (s : State) (u : IcntlUse) (depth mark : Nat) : State :=
  if depth = mark then
    if (s.icntlEff u).getLsbD 10 then { s with irptl := putBit s.irptl 3 true } else s
  else s

/-- `pc_push` (R444). -/
def State.pcPush (s : State) (v : Addr) : State :=
  if s.pcStack.length ≥ 33 then s.overflow
  else ({ s with pcStack := v :: s.pcStack }).levelRequest .pushLevel (s.pcStack.length + 1) 28

/-- The value `pc_pop` returns (R444): the top of the PC stack; of an empty stack any value (V2). -/
def State.pcTop (s : State) : Addr :=
  match s.pcStack with
  | [] => s.free 24 .emptyPcStack
  | v :: _ => v

/-- What `pc_pop` does to the machine (R444). -/
def State.pcDrop (s : State) : State :=
  match s.pcStack with
  | [] => s.overflow
  | _ :: rest => ({ s with pcStack := rest }).levelRequest .popLevel rest.length 3

/-- `sts_push` (R444) of the present ASTAT and MSTAT. -/
def State.stsPush (s : State) : State :=
  if s.statusStack.length ≥ 16 then s.overflow
  else { s with statusStack := ⟨s.astat, s.mstat⟩ :: s.statusStack }

/-- The entry `sts_pop` returns (R444); of an empty stack any values (V2). -/
def State.stsTop (s : State) : StatusEntry :=
  match s.statusStack with
  | [] => ⟨s.free 9 .emptyStatusAstat, s.free 7 .emptyStatusMstat⟩
  | e :: _ => e

/-- What `sts_pop` does to the stack (R444). -/
def State.stsDrop (s : State) : State :=
  match s.statusStack with
  | [] => s.overflow
  | _ :: rest => { s with statusStack := rest }

/-- `lp_push` (R444). -/
def State.lpPush (s : State) (e : LoopEntry) : State :=
  if s.loopStack.length ≥ 8 then s.overflow else { s with loopStack := e :: s.loopStack }

/-- The entry `lp_pop` returns (R444); of empty stacks any values (V2). -/
def State.lpTop (s : State) : LoopEntry :=
  match s.loopStack with
  | [] =>
    ⟨s.free 24 .emptyLoopBegin, s.free 24 .emptyLoopEnd, (s.free 1 .emptyLoopForever).getLsbD 0, s.free 16 .emptyLoopCount⟩
  | e :: _ => e

/-- What `lp_pop` does to the stacks (R444): nothing when they are empty, "loop stack underflow is not detected". -/
def State.lpDrop (s : State) : State := { s with loopStack := s.loopStack.tail }

/-! ## Status registers (R40, R44, R47, R560) -/

/-- MSTAT after a register write or a status pop (R560): each field's window opens with its latency. -/
def State.writeMstat (s : State) (v : BitVec 7) : State :=
  { s with
    mstat := v
    windows := { s.windows with
      secReg := s.windows.secReg.write (s.mstat.getLsbD 0) 1
      bitRev := s.windows.bitRev.write (s.mstat.getLsbD 1) 3
      arSat := s.windows.arSat.write (s.mstat.getLsbD 3) 1
      mMode := s.windows.mMode.write (s.mstat.getLsbD 4) 1
      secDag := s.windows.secDag.write (s.mstat.getLsbD 6) 3 } }

/-- ASTAT after a register write: latency 1 (R560). -/
def State.writeAstat (s : State) (v : BitVec 9) : State :=
  { s with astat := v, windows := { s.windows with astat := s.windows.astat.write s.astat 1 } }

/-- ICNTL after a register write: latency 1 (R560). Enabling PCSTKE while PCSTKLVL = 1 may latch interrupt 3 (R512,
V6). -/
def State.writeIcntl (s : State) (v : Word) : State :=
  let spurious := !s.icntl.getLsbD 10 && v.getLsbD 10 && s.sstat.getLsbD 2 && (s.free 1 .levelRequest).getLsbD 0
  { s with
    icntl := v
    irptl := if spurious then putBit s.irptl 3 true else s.irptl
    windows := { s.windows with icntl := s.windows.icntl.write s.icntl 1 } }

/-- IMASK after a register write: latency 1 (R560). -/
def State.writeImask (s : State) (v : Word) : State :=
  { s with imask := v, windows := { s.windows with imask := s.windows.imask.write s.imask 1 } }

/-- CNTR after a register write or POP LOOP: latency 1 for `not_ce` (R435, R560). -/
def State.writeCntr (s : State) (v : Word) : State :=
  { s with cntr := v, windows := { s.windows with cntr := s.windows.cntr.write s.cntr 1 } }

/-- CCODE after a register write: latency 1 (R435, R560). -/
def State.writeCcode (s : State) (v : BitVec 4) : State :=
  { s with ccode := v, windows := { s.windows with ccode := s.windows.ccode.write s.ccode 1 } }

/-! ## Core registers by code (R147, R370, R371) -/

/-- A register of group 1 as a 16-bit value. -/
def State.reg1 (s : State) : Reg1 → Word
  | .i0 => s.dagReg .dag1 .i .s0 | .i1 => s.dagReg .dag1 .i .s1 | .i2 => s.dagReg .dag1 .i .s2
  | .i3 => s.dagReg .dag1 .i .s3
  | .m0 => s.dagReg .dag1 .m .s0 | .m1 => s.dagReg .dag1 .m .s1 | .m2 => s.dagReg .dag1 .m .s2
  | .m3 => s.dagReg .dag1 .m .s3
  | .l0 => s.dagReg .dag1 .l .s0 | .l1 => s.dagReg .dag1 .l .s1 | .l2 => s.dagReg .dag1 .l .s2
  | .l3 => s.dagReg .dag1 .l .s3
  | .imask => s.imask | .irptl => s.irptl | .icntl => s.icntl | .stacka => s.stacka

/-- A register of group 2 as a 16-bit value. -/
def State.reg2 (s : State) : Reg2 → Word
  | .i4 => s.dagReg .dag2 .i .s0 | .i5 => s.dagReg .dag2 .i .s1 | .i6 => s.dagReg .dag2 .i .s2
  | .i7 => s.dagReg .dag2 .i .s3
  | .m4 => s.dagReg .dag2 .m .s0 | .m5 => s.dagReg .dag2 .m .s1 | .m6 => s.dagReg .dag2 .m .s2
  | .m7 => s.dagReg .dag2 .m .s3
  | .l4 => s.dagReg .dag2 .l .s0 | .l5 => s.dagReg .dag2 .l .s1 | .l6 => s.dagReg .dag2 .l .s2
  | .l7 => s.dagReg .dag2 .l .s3
  | .cntr => s.cntr | .lpstacka => s.lpstacka

/-- LPSTACKP as it is read: bit 15 and bits 7:0, the rest 0 (R65). -/
def LoopPage.read (p : LoopPage) : Word := bit p.forever ++ 0#7 ++ p.page

/-- LPSTACKP as it stores a 16-bit value (R65). -/
def LoopPage.ofWord (v : Word) : LoopPage := ⟨v.getLsbD 15, v.extractLsb' 0 8⟩

/-- A register of group 3, widened to 16 bits by `ext` from its own width. -/
def State.reg3 (s : State) (ext : (w : Nat) → BitVec w → Word) : Reg3 → Word
  | .astat => ext 9 s.astat | .mstat => ext 7 s.mstat | .sstat => ext 8 s.sstatRead
  | .lpstackp => s.lpstackp.read | .ccode => ext 4 s.ccode
  | .se => (s.dataAt .moveSource).se | .sb => (s.dataAt .moveSource).sb
  | .px => ext 8 s.px | .dmpg1 => ext 8 s.dmpg1 | .dmpg2 => ext 8 s.dmpg2
  | .iopg => ext 8 s.iopg | .ijpg => ext 8 s.ijpg | .stackp => ext 8 s.stackp

/-- A core register as a 16-bit value. -/
def State.reg (s : State) (ext : (w : Nat) → BitVec w → Word) : Reg → Word
  | .g0 d => s.dreg .moveSource d
  | .g1 r => s.reg1 r
  | .g2 r => s.reg2 r
  | .g3 r => s.reg3 ext r

/-- `reg_read_zx` (R370): to memory, a narrow register is zero-filled. -/
def State.regZx (s : State) (r : Reg) : Word := s.reg (fun _ v => v.setWidth 16) r

/-- `reg_read_sx` (R370): to a register, a narrow register is sign-extended. -/
def State.regSx (s : State) (r : Reg) : Word := s.reg (fun _ v => v.signExtend 16) r

/-- `reg_write` of a group 1 register (R371). -/
def State.writeReg1 (s : State) (r : Reg1) (v : Word) : State :=
  match r with
  | .i0 => s.loadDag .dag1 .i .s0 v | .i1 => s.loadDag .dag1 .i .s1 v | .i2 => s.loadDag .dag1 .i .s2 v
  | .i3 => s.loadDag .dag1 .i .s3 v
  | .m0 => s.loadDag .dag1 .m .s0 v | .m1 => s.loadDag .dag1 .m .s1 v | .m2 => s.loadDag .dag1 .m .s2 v
  | .m3 => s.loadDag .dag1 .m .s3 v
  | .l0 => s.loadDag .dag1 .l .s0 v | .l1 => s.loadDag .dag1 .l .s1 v | .l2 => s.loadDag .dag1 .l .s2 v
  | .l3 => s.loadDag .dag1 .l .s3 v
  | .imask => s.writeImask v | .irptl => { s with irptl := v } | .icntl => s.writeIcntl v
  | .stacka => { s with stacka := v }

/-- `reg_write` of a group 2 register (R371). -/
def State.writeReg2 (s : State) (r : Reg2) (v : Word) : State :=
  match r with
  | .i4 => s.loadDag .dag2 .i .s0 v | .i5 => s.loadDag .dag2 .i .s1 v | .i6 => s.loadDag .dag2 .i .s2 v
  | .i7 => s.loadDag .dag2 .i .s3 v
  | .m4 => s.loadDag .dag2 .m .s0 v | .m5 => s.loadDag .dag2 .m .s1 v | .m6 => s.loadDag .dag2 .m .s2 v
  | .m7 => s.loadDag .dag2 .m .s3 v
  | .l4 => s.loadDag .dag2 .l .s0 v | .l5 => s.loadDag .dag2 .l .s1 v | .l6 => s.loadDag .dag2 .l .s2 v
  | .l7 => s.loadDag .dag2 .l .s3 v
  | .cntr => s.writeCntr v | .lpstacka => { s with lpstacka := v }

/-- `reg_write` of a group 3 register (R371): the low bits are kept. SSTAT has no storage to write; the meanings refuse
it before they come here (D22). -/
def State.writeReg3 (s : State) (r : Reg3) (v : Word) : State :=
  match r with
  | .astat => s.writeAstat (v.extractLsb' 0 9)
  | .mstat => s.writeMstat (v.extractLsb' 0 7)
  | .sstat => s
  | .lpstackp => { s with lpstackp := LoopPage.ofWord v }
  | .ccode => s.writeCcode (v.extractLsb' 0 4)
  | .se => s.updData .moveDest fun x => { x with se := v }
  | .sb => s.updData .moveDest fun x => { x with sb := v }
  | .px => { s with px := v.extractLsb' 0 8 }
  | .dmpg1 => { s with dmpg1 := v.extractLsb' 0 8 }
  | .dmpg2 => { s with dmpg2 := v.extractLsb' 0 8 }
  | .iopg => { s with iopg := v.extractLsb' 0 8 }
  | .ijpg => { s with ijpg := v.extractLsb' 0 8 }
  | .stackp => { s with stackp := v.extractLsb' 0 8 }

/-- `reg_write` (R371). -/
def State.writeReg (s : State) (r : Reg) (v : Word) : State :=
  match r with
  | .g0 d => s.loadDreg .moveDest d v
  | .g1 r => s.writeReg1 r v
  | .g2 r => s.writeReg2 r v
  | .g3 r => s.writeReg3 r v

/-- The outcome `s` of a move or load into `r`, refused where `r` may not be written (R371, D22). -/
def State.moveInto (s : State) (r : Reg) : Result :=
  if r.writable then .next s else .refused .readOnlyRegister

/-! ## Conditions (R432 to R436) -/

/-- The level of flag pin `k` (R58, R434). -/
def State.pin (s : State) (k : Nat) : Bool := s.pf.getLsbD k

/-- `swcond()` (R434). -/
def State.swcond (s : State) : Bool :=
  let c := s.ccodeEff.toNat
  if c ≤ 7 then s.pin c
  else if c = 8 then (s.astatEff .condition).getLsbD 4
  else if c = 9 then (s.astatEff .condition).getLsbD 8
  else s.pin (c - 2)

/-- The truth of a condition on the state before the instruction (R432, R433, R436). -/
def State.holds (s : State) (c : Cond) : Bool :=
  let a := s.astatEff .condition
  let az := a.getLsbD 0
  let lt := a.getLsbD 1 ^^ a.getLsbD 2
  match c with
  | .eq => az
  | .ne => !az
  | .gt => !(lt || az)
  | .le => lt || az
  | .lt => lt
  | .ge => !lt
  | .av => a.getLsbD 2
  | .notAv => !a.getLsbD 2
  | .ac => a.getLsbD 3
  | .notAc => !a.getLsbD 3
  | .swcond => s.swcond
  | .notSwcond => !s.swcond
  | .mv => a.getLsbD 6
  | .notMv => !a.getLsbD 6
  | .notCe => decide (1 < s.cntrEff.toNat)
  | .always => true

/-- The state when a condition has been evaluated: NOT CE decrements CNTR (R433). The decrement opens no effect-latency
window: an IF NOT CE directly after another tests the decremented value (DEDUCED, log entry 5: R433 counts passes so,
and R560's columns name no such write, although R435 speaks of any instruction that wrote CNTR). -/
def State.evalCond (s : State) (c : Cond) : State :=
  match c with
  | .notCe => { s with cntr := s.cntrEff - 1 }
  | _ => s

/-- A conditional instruction (R436): its effect `f` if the condition holds, else only what evaluating it does. -/
def State.onCond (s : State) (c : Cond) (f : State → State) : State :=
  if s.holds c then f (s.evalCond c) else s.evalCond c

/-! ## Branches (R440) -/

/-- `branch(P, target, delayed)` (R440), P being the address of the instruction being executed. -/
def State.branch (s : State) (target : Addr) (delayed : Bool) : State :=
  if delayed then { s with dbpend := some ⟨target, s.pc + 3⟩ } else { s with redirect := some target }

/-- A call (R453, R457): the return address is the first or, delayed, the third instruction word after it. -/
def State.call (s : State) (target : Addr) (delayed : Bool) : State :=
  ((s.pcPush (s.pc + if delayed then 3 else 1)).branch target delayed).openSstat s 0xFF#8

/-- The target of an indirect branch (R457, R458). -/
def State.indirectTarget (s : State) (g : Dag) (i : Slot) : Addr := s.ijpg ++ s.index g i

/-! ## Taking an interrupt and returning from one (R504 to R511) -/

/-- `irq(n)` for every bit of `req` (R504): latched when n = 0 or GIE = 1, else lost. -/
def State.latchRequests (s : State) (req : Word) : State :=
  { s with irptl := s.irptl ||| (req &&& if s.icntl.getLsbD 5 then 0xFFFF#16 else 0x0001#16) }

/-- `enabled(n)` (R505): 0 always, 1 by GIE alone, the others by GIE and IMASK. -/
def State.interruptEnabled (s : State) (n : Nat) : Bool :=
  if n = 0 then true
  else if n = 1 then (s.icntlEff (.enable n)).getLsbD 5
  else (s.icntlEff (.enable n)).getLsbD 5 && (s.imaskEff n).getLsbD n

/-- `level_allows(n)` (R506); the emulator interrupt 0 is taken whatever INE and INSERVICE are (R513, log entry 9). -/
def State.levelAllows (s : State) (n : Nat) : Bool :=
  if n = 0 then true
  else if s.inService = 0 then true
  else if (s.icntlEff (.nesting n)).getLsbD 4 then n < lowestBit s.inService
  else false

/-- `serviceable(n)` (R505). -/
def State.serviceable (s : State) (n : Nat) : Bool :=
  s.irptl.getLsbD n && s.interruptEnabled n && s.levelAllows n

/-- The interrupt to take now: the lowest-numbered serviceable one, none while a delayed branch is pending (R431, R507,
R509). -/
def State.interruptNow (s : State) : Option Nat :=
  match s.dbpend with
  | none => (List.range 16).find? s.serviceable
  | some _ => none

/-- `vector(n)` (R510). -/
def Params.vector (p : Params) (n : Nat) : Addr := p.vectorBase + 0x20#24 * BitVec.ofNat 24 n

/-- `take_interrupt(n)` (R508): PC and status pushed, the request cleared, the level entered, IDLE left, PC at the
vector. The next instruction's read of SSTAT has the freedom of R562 (`State.entrySstat`). -/
def State.takeInterrupt (s : State) (n : Nat) : State :=
  let t := (s.pcPush s.pc).stsPush
  { t with
    irptl := putBit t.irptl n false
    inService := putBit s.inService n true
    idle := false
    pc := s.params.vector n
    windows := { t.windows with sstat := s.entrySstat } }

/-- The status pop of POP STS and RTI (R462, R459): ASTAT with latency 0, MSTAT with the latencies of the POP STS
column. -/
def State.popStatus (s : State) : State :=
  let e := s.stsTop
  let t := s.stsDrop
  ({ t with astat := e.astat, windows := { t.windows with astat := .closed } }).writeMstat e.mstat

/-- The return from interrupt (R459, R511): pops PC and status, leaves the current level, branches. -/
def State.returnFromInterrupt (s : State) (delayed : Bool) : State :=
  let t := s.pcDrop.popStatus
  (({ t with inService := clearLowest t.inService }).branch s.pcTop delayed).openSstat s 0xFF#8

/-- The return from subroutine (R460). -/
def State.returnFromCall (s : State) (delayed : Bool) : State :=
  (s.pcDrop.branch s.pcTop delayed).openSstat s 0xFF#8

/-- `reset()` (R552): the state of R551 at once; memory and the outside (parameters, pins, events to come, outputs, and
what fetches may see of code written before) stay. -/
def State.hardReset (s : State) : State :=
  { State.reset with
    pc := s.params.resetPc
    mem := s.mem
    stale := s.stale
    params := s.params
    pf := s.pf
    inputs := s.inputs
    outputs := s.outputs
    tick := s.tick }

end Sys2Proof.Machine
end

