-- ==== Sys2Proof/Machine/Operands.lean ====
section
/-! DEFINITION. Every operand form of the compute instructions (spec/30_encoding.md R146, R150; spec/40_alu.md R220,
R221; spec/41_mac.md R270; spec/42_shifter.md R301). -/

namespace Sys2Proof.Machine

/-- The data register an ALU XOP code names (R150). -/
def AluXop.dreg : AluXop → Dreg
  | .ax0 => .ax0 | .ax1 => .ax1 | .ar => .ar | .mr0 => .mr0
  | .mr1 => .mr1 | .mr2 => .mr2 | .sr0 => .sr0 | .sr1 => .sr1

/-- The data register a multiplier XOP code names (R150). -/
def MacXop.dreg : MacXop → Dreg
  | .mx0 => .mx0 | .mx1 => .mx1 | .ar => .ar | .mr0 => .mr0
  | .mr1 => .mr1 | .mr2 => .mr2 | .sr0 => .sr0 | .sr1 => .sr1

/-- The data register a shifter XOP code names (R150). -/
def ShiftXop.dreg : ShiftXop → Dreg
  | .si => .si | .sr2 => .sr2 | .ar => .ar | .mr0 => .mr0
  | .mr1 => .mr1 | .mr2 => .mr2 | .sr0 => .sr0 | .sr1 => .sr1

/-- The data register a dual read's DM part loads (R342). -/
def DmDest.dreg : DmDest → Dreg
  | .ax0 => .ax0 | .ax1 => .ax1 | .mx0 => .mx0 | .mx1 => .mx1

/-- The data register a dual read's PM part loads (R342). -/
def PmDest.dreg : PmDest → Dreg
  | .ay0 => .ay0 | .ay1 => .ay1 | .my0 => .my0 | .my1 => .my1

/-- The ALU x operand (R221). -/
def State.aluX (s : State) (x : AluXop) : Word := s.dreg .x (AluXop.dreg x)

/-- The ALU y operand (R221): AY0, AY1, AF or the value 0. -/
def State.aluY (s : State) : AluYop → Word
  | .ay0 => s.dreg .y .ay0
  | .ay1 => s.dreg .y .ay1
  | .af => (s.dataAt .y).af
  | .zero => 0x0000#16

/-- The multiplier x operand (R270). -/
def State.macX (s : State) (x : MacXop) : Word := s.dreg .x (MacXop.dreg x)

/-- The multiplier y operand (R270): MY0, MY1, SR1 or the value 0. -/
def State.macY (s : State) : MacYop → Word
  | .my0 => s.dreg .y .my0
  | .my1 => s.dreg .y .my1
  | .sr1 => s.dreg .y .sr1
  | .zero => 0x0000#16

/-- The shifter input of Type 12 (R301). -/
def State.shiftX (s : State) (x : ShiftXop) : Word := s.dreg .x (ShiftXop.dreg x)

/-- The y operand of Type 9a (R159): the YREG register, or 0 when Y0 = 1. -/
def State.regY (s : State) (y0 : Bool) (y : Dreg) : Word := if y0 then 0x0000#16 else s.dreg .y y

/-- The upper dividend word of DIVS (R247). -/
def State.divY (s : State) : DivYop → Word
  | .ay1 => s.dreg .y .ay1
  | .af => (s.dataAt .y).af

/-- The constant `1 << n` of a bit number (R146). -/
def bitMask (n : BitVec 4) : Word := BitVec.twoPow 16 n.toNat

/-- The 16-bit y operand a constant stands for (R146): `1 << n` or its ones complement. -/
def Const.value (k : Const) : Word := if k.neg then ~~~bitMask k.n else bitMask k.n

/-- The shift code held in SE (R302): its low eight bits, signed. -/
def State.shiftCode (s : State) : Int := ((s.dataAt .code).se.extractLsb' 0 8).toInt

end Sys2Proof.Machine
end

