-- ==== Sys2Proof/Machine/Flags.lean ====
section
/-! DEFINITION. What the three computation units compute and which flags they write: the ALU (spec/40_alu.md R224,
R225), the multiplier (spec/41_mac.md R273 to R275, R285) and the shifter (spec/42_shifter.md R302, R303, R309,
R311, R312). -/

namespace Sys2Proof.Machine

/-! ## ALU -/

/-- An ALU output before saturation (R224): the 16-bit result, the overflow and the carry of the function. -/
structure AluOut where
  r : Word
  ov : Bool
  cy : Bool
  deriving DecidableEq, Repr

/-- The 17-bit sum of R224. -/
def sum17 (a b : Word) (cin : Bool) : BitVec 17 := a.setWidth 17 + b.setWidth 17 + (bit cin).setWidth 17

/-- An addition (R224): carry out of bit 15; overflow when the operands have one sign and the result the other. -/
def addOut (a b : Word) (cin : Bool) : AluOut :=
  let r17 := sum17 a b cin
  let r := r17.setWidth 16
  ⟨r, a.msb == b.msb && r.msb != a.msb, r17.getLsbD 16⟩

/-- A subtraction `a − b + cin − 1` as the sum `a + NOT b + cin` (R224, D2). -/
def subOut (a b : Word) (cin : Bool) : AluOut :=
  let r17 := sum17 a (~~~b) cin
  let r := r17.setWidth 16
  ⟨r, a.msb != b.msb && r.msb != a.msb, r17.getLsbD 16⟩

/-- A function whose pages list AV and AC as cleared (R224). -/
def plainOut (r : Word) : AluOut := ⟨r, false, false⟩

/-- The sixteen ALU functions (R226 to R246) of operands `x`, `y` and the carry `c`. -/
def aluEval (f : AluFn) (x y : Word) (c : Bool) : AluOut :=
  match f with
  | .pass => plainOut y
  | .inc =>
    let r17 := sum17 y 0x0001#16 false
    ⟨r17.setWidth 16, y = 0x7FFF#16, r17.getLsbD 16⟩
  | .addC => addOut x y c
  | .add => addOut x y false
  | .notY => plainOut (~~~y)
  | .neg =>
    let r17 := sum17 (~~~y) 0x0001#16 false
    ⟨r17.setWidth 16, y = 0x8000#16, r17.getLsbD 16⟩
  | .subB => subOut x y c
  | .sub => subOut x y true
  | .dec =>
    let r17 := sum17 y 0xFFFF#16 false
    ⟨r17.setWidth 16, y = 0x8000#16, r17.getLsbD 16⟩
  | .rsub => subOut y x true
  | .rsubB => subOut y x c
  | .notX => plainOut (~~~x)
  | .and => plainOut (x &&& y)
  | .or => plainOut (x ||| y)
  | .xor => plainOut (x ^^^ y)
  | .abs => if x.msb then ⟨-x, x = 0x8000#16, false⟩ else plainOut x

/-- The value an ALU function writes (R225): saturated when AR is the destination, AR_SAT is on and the function
overflowed. -/
def saturate (o : AluOut) : Word := if o.ov then (if o.cy then 0x8000#16 else 0x7FFF#16) else o.r

/-- The flags AZ, AN, AV, AC of a written value (R224), the other bits of ASTAT unchanged. -/
def aluFlags (a : BitVec 9) (r : Word) (av ac : Bool) : BitVec 9 :=
  putBit (putBit (putBit (putBit a 0 (r = 0)) 1 r.msb) 2 av) 3 ac

/-- An ALU function executed (`alu_finish`, R225): the result to AR or AF (`dest`), or nowhere for `NONE =` (R249);
the flags; AS too for ABS (R242). -/
def State.aluOp (s : State) (dest : Option ResultReg) (f : AluFn) (x y : Word) : State :=
  let o := aluEval f x y ((s.astatEff .carryIn).getLsbD 3)
  let r := if dest = some .result ∧ s.arSat then saturate o else o.r
  let av := if s.avLatch then (s.astatEff .overflowLatch).getLsbD 2 || o.ov else o.ov
  let flags := aluFlags s.astat r av o.cy
  let t := { s with astat := if f = .abs then putBit flags 4 x.msb else flags }
  match dest with
  | none => t
  | some z => t.updData .result fun d => d.setAlu z r

/-! ## Divide primitives -/

/-- The step that DIVS and DIVQ share: AF and AY0 shifted left as one, `top` the word above AY0, `q` the new quotient
sign, `low` the bit that enters AY0 (R247, R248). -/
def State.divStep (s : State) (top : Word) (q low : Bool) : State :=
  let ay0 := s.dreg .divLow .ay0
  let af := top.extractLsb' 0 15 ++ bit ay0.msb
  let ay0' := ay0.extractLsb' 0 15 ++ bit low
  ((({ s with astat := putBit s.astat 5 q }).updData .result fun d => { d with af := af }).updData .divLowOut
    fun d => { d with ay0 := ay0' })

/-! ## Multiplier -/

/-- An operand as the format option reads it (R272). -/
def macOperand (signed : Bool) (v : Word) : Int := if signed then v.toInt else v.toNat

def MacFmt.xSigned : MacFmt → Bool
  | .rnd => true | .ss => true | .su => true | .us => false | .uu => false

def MacFmt.ySigned : MacFmt → Bool
  | .rnd => true | .ss => true | .su => false | .us => true | .uu => false

/-- The aligned product (R273): doubled in fractional mode. -/
def macProduct (fmt : MacFmt) (x y : Word) (integer : Bool) : Int :=
  let p := macOperand (MacFmt.xSigned fmt) x * macOperand (MacFmt.ySigned fmt) y
  if integer then p else 2 * p

/-- `round40` (R274). -/
def round40 (v : Acc40) (biased : Bool) : Acc40 :=
  let t := v + 0x8000#40
  if !biased && v.extractLsb' 0 16 == 0x8000#16 then putBit t 16 false else t

/-- The 40-bit result of a multiplier function (R275). -/
def macEval (op : MacOp) (fmt : MacFmt) (acc : Acc40) (x y : Word) (integer biased : Bool) : Acc40 :=
  let p := macProduct fmt x y integer
  let r := match op with
    | .mul => BitVec.ofInt 40 p
    | .add => BitVec.ofInt 40 (acc.toInt + p)
    | .sub => BitVec.ofInt 40 (acc.toInt - p)
  if fmt = .rnd then round40 r biased else r

/-- The ASTAT bit a multiplier function writes (R285): MV for MR, SV for SR. -/
def macFlagBit : ResultReg → Nat
  | .result => 6
  | .feedback => 8

/-- A multiplier function executed (`mac`, R275); with `write = false` only the flag is written (R288). -/
def State.macOp (s : State) (write : Bool) (z : ResultReg) (op : MacOp) (fmt : MacFmt) (x y : Word) : State :=
  let r := macEval op fmt ((s.dataAt .acc).acc z) x y s.mMode ((s.icntlEff .biasedRound).getLsbD 7)
  let t := { s with astat := putBit s.astat (macFlagBit z) (accOverflow r) }
  if write then t.updData .result fun d => d.setAcc z r else t

/-- SAT (R287): the accumulator, replaced by the nearest 32-bit value if bits 39:31 differ. -/
def saturateAcc (v : Acc40) : Acc40 :=
  if accOverflow v then (if v.msb then 0xFF80000000#40 else 0x007FFFFFFF#40) else v

/-- SAT of an accumulator (R287): its registers written only if it overflowed; no flag. -/
def State.satOp (s : State) (z : ResultReg) : State :=
  let v := (s.dataAt .acc).acc z
  if accOverflow v then s.updData .result fun d => d.setAcc z (saturateAcc v) else s

/-! ## Shifter -/

/-- `shift40` (R302). -/
def shift40 (v : Word) (code : Int) (arith hi fill : Bool) : Acc40 :=
  let ext : Acc40 := (if arith && fill then 0xFFFFFF#24 else 0x000000#24) ++ v
  let base := if hi then ext <<< 16 else ext
  if 0 ≤ code then base <<< code.toNat
  else
    let n := (-code).toNat
    (base >>> n) ||| (if arith && fill then ~~~(BitVec.allOnes 40 >>> n) else 0#40)

/-- A shift result written to SR, or ORed into it, with SV (R303, D13). -/
def State.putSr (s : State) (orIn : Bool) (out : Acc40) : State :=
  let r := if orIn then (s.dataAt .acc).acc .feedback ||| out else out
  ({ s with astat := putBit s.astat 8 (accOverflow r) }).updData .result fun d => d.setAcc .feedback r

/-- ASHIFT or LSHIFT by a shift code (R305 to R308). -/
def State.shiftBy (s : State) (x : Word) (code : Int) (arith hi orIn : Bool) : State :=
  s.putSr orIn (shift40 x code arith hi x.msb)

/-- NORM (R309): the shift code is the negative of SE; (HI) extends by the input's sign or, shifting right, by AC. -/
def State.norm (s : State) (x : Word) (hi orIn : Bool) : State :=
  let code := -s.shiftCode
  let fill := if code < 0 then (s.astatEff .normCarry).getLsbD 3 else x.msb
  s.putSr orIn (shift40 x code hi hi fill)

/-- The number of leading bits among the low `n` bits of `v`, from bit n − 1 down, equal to `b`. -/
def leadFrom (v : Word) (b : Bool) : Nat → Nat
  | 0 => 0
  | n + 1 => if v.getLsbD n = b then 1 + leadFrom v b n else 0

/-- `lead(v, b)` (R311): the leading bits of `v` equal to `b`, 0 to 16. -/
def lead (v : Word) (b : Bool) : Nat := leadFrom v b 16

/-- The exponent of a word (R311, R312): the negative of its redundant sign bits, 0 to −15. -/
def exponent (v : Word) : Int := -((lead v v.msb : Int) - 1)

/-- SE written by EXP. -/
def State.setSe (s : State) (e : Int) : State := s.updData .result fun d => { d with se := BitVec.ofInt 16 e }

/-- EXP (HI) (R311). -/
def State.expHi (s : State) (x : Word) : State :=
  ({ s with astat := putBit s.astat 7 x.msb }).setSe (exponent x)

/-- EXP (HIX) (R311): +1 and the inverted sign after an ALU overflow. -/
def State.expHix (s : State) (x : Word) : State :=
  if (s.astatEff .exponentOverflow).getLsbD 2 then ({ s with astat := putBit s.astat 7 (!x.msb) }).setSe 1
  else s.expHi x

/-- EXP (LO) (R311, D15): acts only when SE is −15. -/
def State.expLo (s : State) (x : Word) : State :=
  if s.shiftCode = -15 then s.setSe (-(15 + (lead x ((s.astatEff .exponentSign).getLsbD 7) : Int))) else s

/-- EXPADJ (R312): SB raised to the input's exponent. -/
def State.expAdj (s : State) (x : Word) : State :=
  if exponent x > ((s.dataAt .code).sb.extractLsb' 0 5).toInt then
    s.updData .result fun d => { d with sb := BitVec.ofInt 16 (exponent x) }
  else s

/-- A shifter function executed with its shift value from SE (R305 to R312). -/
def State.shiftOp (s : State) (f : ShiftFn) (x : Word) : State :=
  match f with
  | .lshiftHi => s.shiftBy x s.shiftCode false true false
  | .lshiftHiOr => s.shiftBy x s.shiftCode false true true
  | .lshiftLo => s.shiftBy x s.shiftCode false false false
  | .lshiftLoOr => s.shiftBy x s.shiftCode false false true
  | .ashiftHi => s.shiftBy x s.shiftCode true true false
  | .ashiftHiOr => s.shiftBy x s.shiftCode true true true
  | .ashiftLo => s.shiftBy x s.shiftCode true false false
  | .ashiftLoOr => s.shiftBy x s.shiftCode true false true
  | .normHi => s.norm x true false
  | .normHiOr => s.norm x true true
  | .normLo => s.norm x false false
  | .normLoOr => s.norm x false true
  | .expHi => s.expHi x
  | .expHix => s.expHix x
  | .expLo => s.expLo x
  | .expAdj => s.expAdj x

/-! ## The compute part of a multifunction instruction (R340) -/

/-- A compute field executed; with `write = false` only its flags are written (R348). -/
def State.compute (s : State) (write : Bool) (z : ResultReg) (f : Compute) : State :=
  match f with
  | .alu f y x => s.aluOp (if write then some z else none) f (s.aluX x) (s.aluY y)
  | .mac (.nop _) => s
  | .mac (.mac op fmt y x) => s.macOp write z op fmt (s.macX x) (s.macY y)

/-- The three registers of an accumulator. -/
def accDregs : ResultReg → List Dreg
  | .result => [.mr0, .mr1, .mr2]
  | .feedback => [.sr0, .sr1, .sr2]

/-- The data registers a compute field writes (R350); AF is none of them. -/
def Compute.dests (z : ResultReg) : Compute → List Dreg
  | .alu _ _ _ => match z with
    | .result => [.ar]
    | .feedback => []
  | .mac (.nop _) => []
  | .mac (.mac _ _ _ _) => accDregs z

/-- The data registers a shifter function writes (R350); SE and SB are none of them. -/
def ShiftFn.dests : ShiftFn → List Dreg
  | .expHi => []
  | .expHix => []
  | .expLo => []
  | .expAdj => []
  | _ => accDregs .feedback

/-- The data registers a move into `d` writes (R371): MR1 and SR1 bring MR2 and SR2 along. -/
def Dreg.loadDests : Dreg → List Dreg
  | .mr1 => [.mr1, .mr2]
  | .sr1 => [.sr1, .sr2]
  | d => [d]

/-- Data registers that hold any value: written twice by one instruction (R350, V3). -/
def State.clash (s : State) : List Dreg → State
  | [] => s
  | d :: ds => (s.updData .moveDest fun x => x.set d (s.free 16 (.clash d))).clash ds

/-- The move part of a multifunction instruction: the load of `d`, and any value in every register the compute part has
written too (R350). -/
def State.loadBeside (s : State) (dests : List Dreg) (d : Dreg) (v : Word) : State :=
  (s.loadDreg .moveDest d v).clash ((Dreg.loadDests d).filter dests.contains)

/-- The datum a multifunction instruction moves or stores (R341, R351): the register's value before the instruction,
but any value for SR2 when the compute part writes SR (V4). -/
def State.moveDatum (s : State) (dests : List Dreg) (d : Dreg) : Word :=
  if d = .sr2 ∧ dests.contains .sr2 then s.free 16 .sr2Source else s.dreg .moveSource d

end Sys2Proof.Machine
end

