-- ==== Sys2Proof/Machine/Alu.lean ====
section
/-! DEFINITION. The ALU instructions: Types 9, 9a, 23 and 24 (spec/40_alu.md). Every meaning is one ALU function over the
operand form its row gives it. -/

namespace Sys2Proof.Machine

/-- Type 9 forms (a) and (c): an ALU function of an XOP and a YOP register, under a condition (R158, R221, R223). -/
def State.aluYop (s : State) (f : AluFn) (z : ResultReg) (y : AluYop) (x : AluXop) (c : Cond) : State :=
  s.onCond c fun t => t.aluOp (some z) f (t.aluX x) (t.aluY y)

/-- Type 9 form (b): an ALU function of an XOP register and a constant, under a condition (R158, R221, R246). -/
def State.aluConst (s : State) (f : AluFn) (z : ResultReg) (y : Word) (x : AluXop) (c : Cond) : State :=
  s.onCond c fun t => t.aluOp (some z) f (t.aluX x) y

/-- Type 9a: an ALU function of two data registers (R159, R220). -/
def State.aluReg (s : State) (f : AluFn) (z : ResultReg) (y0 : Bool) (x y : Dreg) : State :=
  s.aluOp (some z) f (s.dreg .x x) (s.regY y0 y)

/-- y (PASS), register or zero y operand (R239). -/
def execAluPassYop (z : ResultReg) (y : AluYop) (x : AluXop) (c : Cond) (s : State) : Result :=
  .next (s.aluYop .pass z y x c)

/-- y (PASS), constant y operand (R239, R246). -/
def execAluPassConst (z : ResultReg) (k : Const) (x : AluXop) (c : Cond) (s : State) : Result :=
  .next (s.aluConst .pass z (Const.value k) x c)

/-- y (PASS), data registers (R239). -/
def execAluPassReg (z : ResultReg) (y0 : Bool) (x y : Dreg) (s : State) : Result := .next (s.aluReg .pass z y0 x y)

/-- y + 1, register or zero y operand (R243). -/
def execAluIncYop (z : ResultReg) (y : AluYop) (x : AluXop) (c : Cond) (s : State) : Result :=
  .next (s.aluYop .inc z y x c)

/-- y + 1, constant y operand (R243, R246). -/
def execAluIncConst (z : ResultReg) (k : Const) (x : AluXop) (c : Cond) (s : State) : Result :=
  .next (s.aluConst .inc z (Const.value k) x c)

/-- y + 1, data registers (R243). -/
def execAluIncReg (z : ResultReg) (y0 : Bool) (x y : Dreg) (s : State) : Result := .next (s.aluReg .inc z y0 x y)

/-- x + y + C, register or zero y operand (R227). -/
def execAluAddCYop (z : ResultReg) (y : AluYop) (x : AluXop) (c : Cond) (s : State) : Result :=
  .next (s.aluYop .addC z y x c)

/-- x + y + C, constant y operand (R227, R246). -/
def execAluAddCConst (z : ResultReg) (k : Const) (x : AluXop) (c : Cond) (s : State) : Result :=
  .next (s.aluConst .addC z (Const.value k) x c)

/-- x + y + C, data registers (R227). -/
def execAluAddCReg (z : ResultReg) (y0 : Bool) (x y : Dreg) (s : State) : Result := .next (s.aluReg .addC z y0 x y)

/-- x + y, register or zero y operand (R226). -/
def execAluAddYop (z : ResultReg) (y : AluYop) (x : AluXop) (c : Cond) (s : State) : Result :=
  .next (s.aluYop .add z y x c)

/-- x + y, constant y operand (R226, R246). -/
def execAluAddConst (z : ResultReg) (k : Const) (x : AluXop) (c : Cond) (s : State) : Result :=
  .next (s.aluConst .add z (Const.value k) x c)

/-- x + y, data registers (R226). -/
def execAluAddReg (z : ResultReg) (y0 : Bool) (x y : Dreg) (s : State) : Result := .next (s.aluReg .add z y0 x y)

/-- NOT y, register or zero y operand (R241). -/
def execAluNotYYop (z : ResultReg) (y : AluYop) (x : AluXop) (c : Cond) (s : State) : Result :=
  .next (s.aluYop .notY z y x c)

/-- NOT y, constant y operand (R241, R246). -/
def execAluNotYConst (z : ResultReg) (k : Const) (x : AluXop) (c : Cond) (s : State) : Result :=
  .next (s.aluConst .notY z (Const.value k) x c)

/-- NOT y, data registers (R241). -/
def execAluNotYReg (z : ResultReg) (y0 : Bool) (x y : Dreg) (s : State) : Result := .next (s.aluReg .notY z y0 x y)

/-- −y, register or zero y operand (R245). -/
def execAluNegYop (z : ResultReg) (y : AluYop) (x : AluXop) (c : Cond) (s : State) : Result :=
  .next (s.aluYop .neg z y x c)

/-- −y, constant y operand (R245, R246). -/
def execAluNegConst (z : ResultReg) (k : Const) (x : AluXop) (c : Cond) (s : State) : Result :=
  .next (s.aluConst .neg z (Const.value k) x c)

/-- −y, data registers (R245). -/
def execAluNegReg (z : ResultReg) (y0 : Bool) (x y : Dreg) (s : State) : Result := .next (s.aluReg .neg z y0 x y)

/-- x − y + C − 1, register or zero y operand (R229). -/
def execAluSubBYop (z : ResultReg) (y : AluYop) (x : AluXop) (c : Cond) (s : State) : Result :=
  .next (s.aluYop .subB z y x c)

/-- x − y + C − 1, constant y operand (R229, R246). -/
def execAluSubBConst (z : ResultReg) (k : Const) (x : AluXop) (c : Cond) (s : State) : Result :=
  .next (s.aluConst .subB z (Const.value k) x c)

/-- x − y + C − 1, data registers (R229). -/
def execAluSubBReg (z : ResultReg) (y0 : Bool) (x y : Dreg) (s : State) : Result := .next (s.aluReg .subB z y0 x y)

/-- x − y, register or zero y operand (R228). -/
def execAluSubYop (z : ResultReg) (y : AluYop) (x : AluXop) (c : Cond) (s : State) : Result :=
  .next (s.aluYop .sub z y x c)

/-- x − y, constant y operand (R228, R246). -/
def execAluSubConst (z : ResultReg) (k : Const) (x : AluXop) (c : Cond) (s : State) : Result :=
  .next (s.aluConst .sub z (Const.value k) x c)

/-- x − y, data registers (R228). -/
def execAluSubReg (z : ResultReg) (y0 : Bool) (x y : Dreg) (s : State) : Result := .next (s.aluReg .sub z y0 x y)

/-- y − 1, register or zero y operand (R244). -/
def execAluDecYop (z : ResultReg) (y : AluYop) (x : AluXop) (c : Cond) (s : State) : Result :=
  .next (s.aluYop .dec z y x c)

/-- y − 1, constant y operand (R244, R246). -/
def execAluDecConst (z : ResultReg) (k : Const) (x : AluXop) (c : Cond) (s : State) : Result :=
  .next (s.aluConst .dec z (Const.value k) x c)

/-- y − 1, data registers (R244). -/
def execAluDecReg (z : ResultReg) (y0 : Bool) (x y : Dreg) (s : State) : Result := .next (s.aluReg .dec z y0 x y)

/-- y − x, register or zero y operand (R230). -/
def execAluRsubYop (z : ResultReg) (y : AluYop) (x : AluXop) (c : Cond) (s : State) : Result :=
  .next (s.aluYop .rsub z y x c)

/-- y − x, constant y operand (R230, R246). -/
def execAluRsubConst (z : ResultReg) (k : Const) (x : AluXop) (c : Cond) (s : State) : Result :=
  .next (s.aluConst .rsub z (Const.value k) x c)

/-- y − x, data registers (R230). -/
def execAluRsubReg (z : ResultReg) (y0 : Bool) (x y : Dreg) (s : State) : Result := .next (s.aluReg .rsub z y0 x y)

/-- y − x + C − 1, register or zero y operand (R231). -/
def execAluRsubBYop (z : ResultReg) (y : AluYop) (x : AluXop) (c : Cond) (s : State) : Result :=
  .next (s.aluYop .rsubB z y x c)

/-- y − x + C − 1, constant y operand (R231, R246). -/
def execAluRsubBConst (z : ResultReg) (k : Const) (x : AluXop) (c : Cond) (s : State) : Result :=
  .next (s.aluConst .rsubB z (Const.value k) x c)

/-- y − x + C − 1, data registers (R231). -/
def execAluRsubBReg (z : ResultReg) (y0 : Bool) (x y : Dreg) (s : State) : Result := .next (s.aluReg .rsubB z y0 x y)

/-- NOT x, register or zero y operand (R240). -/
def execAluNotXYop (z : ResultReg) (y : AluYop) (x : AluXop) (c : Cond) (s : State) : Result :=
  .next (s.aluYop .notX z y x c)

/-- NOT x, constant y operand (R240, R246). -/
def execAluNotXConst (z : ResultReg) (k : Const) (x : AluXop) (c : Cond) (s : State) : Result :=
  .next (s.aluConst .notX z (Const.value k) x c)

/-- NOT x, data registers (R240). -/
def execAluNotXReg (z : ResultReg) (y0 : Bool) (x y : Dreg) (s : State) : Result := .next (s.aluReg .notX z y0 x y)

/-- x AND y, register or zero y operand (R232). -/
def execAluAndYop (z : ResultReg) (y : AluYop) (x : AluXop) (c : Cond) (s : State) : Result :=
  .next (s.aluYop .and z y x c)

/-- x AND y, constant y operand (R232, R246). -/
def execAluAndConst (z : ResultReg) (k : Const) (x : AluXop) (c : Cond) (s : State) : Result :=
  .next (s.aluConst .and z (Const.value k) x c)

/-- x AND y, data registers (R232). -/
def execAluAndReg (z : ResultReg) (y0 : Bool) (x y : Dreg) (s : State) : Result := .next (s.aluReg .and z y0 x y)

/-- x OR y, register or zero y operand (R233). -/
def execAluOrYop (z : ResultReg) (y : AluYop) (x : AluXop) (c : Cond) (s : State) : Result :=
  .next (s.aluYop .or z y x c)

/-- x OR y, constant y operand (R233, R246). -/
def execAluOrConst (z : ResultReg) (k : Const) (x : AluXop) (c : Cond) (s : State) : Result :=
  .next (s.aluConst .or z (Const.value k) x c)

/-- x OR y, data registers (R233). -/
def execAluOrReg (z : ResultReg) (y0 : Bool) (x y : Dreg) (s : State) : Result := .next (s.aluReg .or z y0 x y)

/-- x XOR y, register or zero y operand (R234). -/
def execAluXorYop (z : ResultReg) (y : AluYop) (x : AluXop) (c : Cond) (s : State) : Result :=
  .next (s.aluYop .xor z y x c)

/-- x XOR y, constant y operand (R234, R246). -/
def execAluXorConst (z : ResultReg) (k : Const) (x : AluXop) (c : Cond) (s : State) : Result :=
  .next (s.aluConst .xor z (Const.value k) x c)

/-- x XOR y, data registers (R234). -/
def execAluXorReg (z : ResultReg) (y0 : Bool) (x y : Dreg) (s : State) : Result := .next (s.aluReg .xor z y0 x y)

/-- ABS x, register or zero y operand (R242). -/
def execAluAbsYop (z : ResultReg) (y : AluYop) (x : AluXop) (c : Cond) (s : State) : Result :=
  .next (s.aluYop .abs z y x c)

/-- ABS x, constant y operand (R242, R246). -/
def execAluAbsConst (z : ResultReg) (k : Const) (x : AluXop) (c : Cond) (s : State) : Result :=
  .next (s.aluConst .abs z (Const.value k) x c)

/-- ABS x, data registers (R242). -/
def execAluAbsReg (z : ResultReg) (y0 : Bool) (x y : Dreg) (s : State) : Result := .next (s.aluReg .abs z y0 x y)

/-- TSTBIT (R235): x AND 1 << n. -/
def execTstBit (z : ResultReg) (n : BitVec 4) (x : AluXop) (c : Cond) (s : State) : Result :=
  .next (s.aluConst .and z (bitMask n) x c)

/-- SETBIT (R236): x OR 1 << n. -/
def execSetBit (z : ResultReg) (n : BitVec 4) (x : AluXop) (c : Cond) (s : State) : Result :=
  .next (s.aluConst .or z (bitMask n) x c)

/-- CLRBIT (R237): x AND NOT (1 << n). -/
def execClrBit (z : ResultReg) (n : BitVec 4) (x : AluXop) (c : Cond) (s : State) : Result :=
  .next (s.aluConst .and z (~~~bitMask n) x c)

/-- TGLBIT (R238): x XOR 1 << n. -/
def execTglBit (z : ResultReg) (n : BitVec 4) (x : AluXop) (c : Cond) (s : State) : Result :=
  .next (s.aluConst .xor z (bitMask n) x c)

/-- PASS 0 (R239): y with y = 0. -/
def execPassZero (z : ResultReg) (x : AluXop) (c : Cond) (s : State) : Result := .next (s.aluYop .pass z .zero x c)

/-- PASS 1 (R239): y + 1 with y = 0. -/
def execPassOne (z : ResultReg) (x : AluXop) (c : Cond) (s : State) : Result := .next (s.aluYop .inc z .zero x c)

/-- PASS −1 (R239): y − 1 with y = 0. -/
def execPassMinusOne (z : ResultReg) (x : AluXop) (c : Cond) (s : State) : Result := .next (s.aluYop .dec z .zero x c)

/-- PASS Xop (R239): x + y with y = 0. -/
def execPassXop (z : ResultReg) (x : AluXop) (c : Cond) (s : State) : Result := .next (s.aluYop .add z .zero x c)

/-- −Xop (R230): y − x with y = 0. -/
def execNegXop (z : ResultReg) (x : AluXop) (c : Cond) (s : State) : Result := .next (s.aluYop .rsub z .zero x c)

/-- Type 9 with AMF 00000: no operation, but the condition is evaluated (R144). -/
def execCondNop (_zyx : BitVec 6) (c : Cond) (s : State) : Result := .next (s.onCond c fun t => t)

/-- Type 9a with AMF 00000: no operation (R144). -/
def execRegNop (_z : ResultReg) (_y0 : Bool) (_x _y : Dreg) (s : State) : Result := .next s

/-- DIVS (R247): the quotient's sign is that of x XOR y; AF and AY0 are shifted left as one 32-bit dividend. -/
def execDivs (y : DivYop) (x : AluXop) (s : State) : Result :=
  let q := (s.aluX x).msb ^^ (s.divY y).msb
  .next (s.divStep (s.divY y) q q)

/-- DIVQ (R248, D11): the divisor added to or subtracted from AF by AQ; the quotient bit is the inverted new AQ. -/
def execDivq (x : AluXop) (s : State) : Result :=
  let af := s.aluY .af
  let t := if (s.astatEff .quotient).getLsbD 5 then af + s.aluX x else af - s.aluX x
  let q := (s.aluX x).msb ^^ t.msb
  .next (s.divStep t q (!q))

end Sys2Proof.Machine
end

