-- ==== Sys2Proof/Machine/Flow.lean ====
section
/-! DEFINITION. The program flow instructions: Types 10, 10a, 11, 19, 20, 30, 31 and 36 (spec/45_program_flow.md). The PC and
the end of loops are the sequencer's (Sequencer.lean); a meaning only sets `redirect` or DBPEND. -/

namespace Sys2Proof.Machine

/-- DO UNTIL (R450): one entry onto the loop stacks; an offset of 0 is refused (U12). -/
def State.doLoop (s : State) (off : BitVec 12) (forever : Bool) : Result :=
  if off = 0 then .refused .loopOffset
  else .next ((s.lpPush ⟨s.pc + 1, s.pc + off.setWidth 24, forever, s.cntr⟩).openSstat s 0xFF#8)

/-- DO … UNTIL CE (R450). -/
def execDoUntilCe (off : BitVec 12) (s : State) : Result := s.doLoop off false

/-- DO … UNTIL FOREVER (R450). -/
def execDoForever (off : BitVec 12) (s : State) : Result := s.doLoop off true

/-- [IF COND] JUMP Imm13 [(DB)] (R452). -/
def execJumpRel13 (db : Bool) (off : BitVec 13) (c : Cond) (s : State) : Result :=
  .next (s.onCond c fun t => t.branch (t.pc + off.signExtend 24) db)

/-- JUMP Imm16 [(DB)] (R454). -/
def execJumpRel16 (db : Bool) (off : BitVec 16) (s : State) : Result :=
  .next (s.branch (s.pc + off.signExtend 24) db)

/-- CALL Imm16 [(DB)] (R453). -/
def execCallRel16 (db : Bool) (off : BitVec 16) (s : State) : Result :=
  .next (s.call (s.pc + off.signExtend 24) db)

/-- [IF COND] LJUMP Imm24 (R456). -/
def execLongJump (a : BitVec 24) (c : Cond) (s : State) : Result :=
  .next (s.onCond c fun t => t.branch a false)

/-- [IF COND] LCALL Imm24 (R455): the return address is past both words. -/
def execLongCall (a : BitVec 24) (c : Cond) (s : State) : Result :=
  .next (s.onCond c fun t => ((t.pcPush (t.pc + 2)).branch a false).openSstat s 0xFF#8)

/-- [IF COND] JUMP (Ireg) [(DB)] (R458). -/
def execJumpInd (db : Bool) (g : Dag) (c : Cond) (i : Slot) (s : State) : Result :=
  .next (s.onCond c fun t => t.branch (t.indirectTarget g i) db)

/-- [IF COND] CALL (Ireg) [(DB)] (R457). -/
def execCallInd (db : Bool) (g : Dag) (c : Cond) (i : Slot) (s : State) : Result :=
  .next (s.onCond c fun t => t.call (t.indirectTarget g i) db)

/-- [IF COND] RTS [(DB)] (R460). -/
def execRts (db : Bool) (c : Cond) (s : State) : Result :=
  .next (s.onCond c fun t => t.returnFromCall db)

/-- [IF COND] RTI [(DB)] [(SS)] (R459); (SS) has no effect without an emulator (D39). -/
def execRti (db : Bool) (_ss : Bool) (c : Cond) (s : State) : Result :=
  .next (s.onCond c fun t => t.returnFromInterrupt db)

/-- NOP (R468): SWCD is ignored. -/
def execNop (_swcd : BitVec 4) (s : State) : Result := .next s

/-- IDLE (R469): the core waits for a serviceable interrupt; the clock divisor is ignored. -/
def execIdle (_v : BitVec 4) (s : State) : Result := .next { s with idle := true }

end Sys2Proof.Machine
end

