-- ==== Sys2Proof/Machine/Mac.lean ====
section
/-! DEFINITION. The multiplier instructions: Types 9, 9a and 25 (spec/41_mac.md). Every meaning is one multiplier function
over the operand form its row gives it. -/

namespace Sys2Proof.Machine

/-- Type 9 forms (a) and (c): a multiplier function of an XOP and a YOP register, under a condition (R158, R270). -/
def State.macYop (s : State) (op : MacOp) (fmt : MacFmt) (z : ResultReg) (y : MacYop) (x : MacXop) (c : Cond) : State :=
  s.onCond c fun t => t.macOp true z op fmt (t.macX x) (t.macY y)

/-- Type 9 form (d): squaring an XOP register, under a condition (R158, R282). -/
def State.macSquare (s : State) (op : MacOp) (fmt : MacFmt) (z : ResultReg) (x : MacXop) (c : Cond) : State :=
  s.onCond c fun t => t.macOp true z op fmt (t.macX x) (t.macX x)

/-- Type 9a: a multiplier function of two data registers (R159, R270). -/
def State.macReg (s : State) (op : MacOp) (fmt : MacFmt) (z : ResultReg) (y0 : Bool) (x y : Dreg) : State :=
  s.macOp true z op fmt (s.dreg .x x) (s.regY y0 y)

/-- x * y (RND), register or zero y operand (R277). -/
def execMacMulRndYop (z : ResultReg) (y : MacYop) (x : MacXop) (c : Cond) (s : State) : Result :=
  .next (s.macYop .mul .rnd z y x c)

/-- x * x (RND), squaring (R282). -/
def execMacMulRndSq (z : ResultReg) (x : MacXop) (c : Cond) (s : State) : Result :=
  .next (s.macSquare .mul .rnd z x c)

/-- x * y (RND), data registers (R277). -/
def execMacMulRndReg (z : ResultReg) (y0 : Bool) (x y : Dreg) (s : State) : Result :=
  .next (s.macReg .mul .rnd z y0 x y)

/-- acc + x * y (RND), register or zero y operand (R279). -/
def execMacAddRndYop (z : ResultReg) (y : MacYop) (x : MacXop) (c : Cond) (s : State) : Result :=
  .next (s.macYop .add .rnd z y x c)

/-- acc + x * x (RND), squaring (R282). -/
def execMacAddRndSq (z : ResultReg) (x : MacXop) (c : Cond) (s : State) : Result :=
  .next (s.macSquare .add .rnd z x c)

/-- acc + x * y (RND), data registers (R279). -/
def execMacAddRndReg (z : ResultReg) (y0 : Bool) (x y : Dreg) (s : State) : Result :=
  .next (s.macReg .add .rnd z y0 x y)

/-- acc − x * y (RND), register or zero y operand (R281). -/
def execMacSubRndYop (z : ResultReg) (y : MacYop) (x : MacXop) (c : Cond) (s : State) : Result :=
  .next (s.macYop .sub .rnd z y x c)

/-- acc − x * x (RND), squaring (R282). -/
def execMacSubRndSq (z : ResultReg) (x : MacXop) (c : Cond) (s : State) : Result :=
  .next (s.macSquare .sub .rnd z x c)

/-- acc − x * y (RND), data registers (R281). -/
def execMacSubRndReg (z : ResultReg) (y0 : Bool) (x y : Dreg) (s : State) : Result :=
  .next (s.macReg .sub .rnd z y0 x y)

/-- x * y (SS), register or zero y operand (R276). -/
def execMacMulSsYop (z : ResultReg) (y : MacYop) (x : MacXop) (c : Cond) (s : State) : Result :=
  .next (s.macYop .mul .ss z y x c)

/-- x * x (SS), squaring (R282). -/
def execMacMulSsSq (z : ResultReg) (x : MacXop) (c : Cond) (s : State) : Result := .next (s.macSquare .mul .ss z x c)

/-- x * y (SS), data registers (R276). -/
def execMacMulSsReg (z : ResultReg) (y0 : Bool) (x y : Dreg) (s : State) : Result :=
  .next (s.macReg .mul .ss z y0 x y)

/-- x * y (SU), register or zero y operand (R276). -/
def execMacMulSuYop (z : ResultReg) (y : MacYop) (x : MacXop) (c : Cond) (s : State) : Result :=
  .next (s.macYop .mul .su z y x c)

/-- x * x (SU), squaring (R282). -/
def execMacMulSuSq (z : ResultReg) (x : MacXop) (c : Cond) (s : State) : Result := .next (s.macSquare .mul .su z x c)

/-- x * y (SU), data registers (R276). -/
def execMacMulSuReg (z : ResultReg) (y0 : Bool) (x y : Dreg) (s : State) : Result :=
  .next (s.macReg .mul .su z y0 x y)

/-- x * y (US), register or zero y operand (R276). -/
def execMacMulUsYop (z : ResultReg) (y : MacYop) (x : MacXop) (c : Cond) (s : State) : Result :=
  .next (s.macYop .mul .us z y x c)

/-- x * x (US), squaring (R282). -/
def execMacMulUsSq (z : ResultReg) (x : MacXop) (c : Cond) (s : State) : Result := .next (s.macSquare .mul .us z x c)

/-- x * y (US), data registers (R276). -/
def execMacMulUsReg (z : ResultReg) (y0 : Bool) (x y : Dreg) (s : State) : Result :=
  .next (s.macReg .mul .us z y0 x y)

/-- x * y (UU), register or zero y operand (R276). -/
def execMacMulUuYop (z : ResultReg) (y : MacYop) (x : MacXop) (c : Cond) (s : State) : Result :=
  .next (s.macYop .mul .uu z y x c)

/-- x * x (UU), squaring (R282). -/
def execMacMulUuSq (z : ResultReg) (x : MacXop) (c : Cond) (s : State) : Result := .next (s.macSquare .mul .uu z x c)

/-- x * y (UU), data registers (R276). -/
def execMacMulUuReg (z : ResultReg) (y0 : Bool) (x y : Dreg) (s : State) : Result :=
  .next (s.macReg .mul .uu z y0 x y)

/-- acc + x * y (SS), register or zero y operand (R278). -/
def execMacAddSsYop (z : ResultReg) (y : MacYop) (x : MacXop) (c : Cond) (s : State) : Result :=
  .next (s.macYop .add .ss z y x c)

/-- acc + x * x (SS), squaring (R282). -/
def execMacAddSsSq (z : ResultReg) (x : MacXop) (c : Cond) (s : State) : Result := .next (s.macSquare .add .ss z x c)

/-- acc + x * y (SS), data registers (R278). -/
def execMacAddSsReg (z : ResultReg) (y0 : Bool) (x y : Dreg) (s : State) : Result :=
  .next (s.macReg .add .ss z y0 x y)

/-- acc + x * y (SU), register or zero y operand (R278). -/
def execMacAddSuYop (z : ResultReg) (y : MacYop) (x : MacXop) (c : Cond) (s : State) : Result :=
  .next (s.macYop .add .su z y x c)

/-- acc + x * x (SU), squaring (R282). -/
def execMacAddSuSq (z : ResultReg) (x : MacXop) (c : Cond) (s : State) : Result := .next (s.macSquare .add .su z x c)

/-- acc + x * y (SU), data registers (R278). -/
def execMacAddSuReg (z : ResultReg) (y0 : Bool) (x y : Dreg) (s : State) : Result :=
  .next (s.macReg .add .su z y0 x y)

/-- acc + x * y (US), register or zero y operand (R278). -/
def execMacAddUsYop (z : ResultReg) (y : MacYop) (x : MacXop) (c : Cond) (s : State) : Result :=
  .next (s.macYop .add .us z y x c)

/-- acc + x * x (US), squaring (R282). -/
def execMacAddUsSq (z : ResultReg) (x : MacXop) (c : Cond) (s : State) : Result := .next (s.macSquare .add .us z x c)

/-- acc + x * y (US), data registers (R278). -/
def execMacAddUsReg (z : ResultReg) (y0 : Bool) (x y : Dreg) (s : State) : Result :=
  .next (s.macReg .add .us z y0 x y)

/-- acc + x * y (UU), register or zero y operand (R278). -/
def execMacAddUuYop (z : ResultReg) (y : MacYop) (x : MacXop) (c : Cond) (s : State) : Result :=
  .next (s.macYop .add .uu z y x c)

/-- acc + x * x (UU), squaring (R282). -/
def execMacAddUuSq (z : ResultReg) (x : MacXop) (c : Cond) (s : State) : Result := .next (s.macSquare .add .uu z x c)

/-- acc + x * y (UU), data registers (R278). -/
def execMacAddUuReg (z : ResultReg) (y0 : Bool) (x y : Dreg) (s : State) : Result :=
  .next (s.macReg .add .uu z y0 x y)

/-- acc − x * y (SS), register or zero y operand (R280). -/
def execMacSubSsYop (z : ResultReg) (y : MacYop) (x : MacXop) (c : Cond) (s : State) : Result :=
  .next (s.macYop .sub .ss z y x c)

/-- acc − x * x (SS), squaring (R282). -/
def execMacSubSsSq (z : ResultReg) (x : MacXop) (c : Cond) (s : State) : Result := .next (s.macSquare .sub .ss z x c)

/-- acc − x * y (SS), data registers (R280). -/
def execMacSubSsReg (z : ResultReg) (y0 : Bool) (x y : Dreg) (s : State) : Result :=
  .next (s.macReg .sub .ss z y0 x y)

/-- acc − x * y (SU), register or zero y operand (R280). -/
def execMacSubSuYop (z : ResultReg) (y : MacYop) (x : MacXop) (c : Cond) (s : State) : Result :=
  .next (s.macYop .sub .su z y x c)

/-- acc − x * x (SU), squaring (R282). -/
def execMacSubSuSq (z : ResultReg) (x : MacXop) (c : Cond) (s : State) : Result := .next (s.macSquare .sub .su z x c)

/-- acc − x * y (SU), data registers (R280). -/
def execMacSubSuReg (z : ResultReg) (y0 : Bool) (x y : Dreg) (s : State) : Result :=
  .next (s.macReg .sub .su z y0 x y)

/-- acc − x * y (US), register or zero y operand (R280). -/
def execMacSubUsYop (z : ResultReg) (y : MacYop) (x : MacXop) (c : Cond) (s : State) : Result :=
  .next (s.macYop .sub .us z y x c)

/-- acc − x * x (US), squaring (R282). -/
def execMacSubUsSq (z : ResultReg) (x : MacXop) (c : Cond) (s : State) : Result := .next (s.macSquare .sub .us z x c)

/-- acc − x * y (US), data registers (R280). -/
def execMacSubUsReg (z : ResultReg) (y0 : Bool) (x y : Dreg) (s : State) : Result :=
  .next (s.macReg .sub .us z y0 x y)

/-- acc − x * y (UU), register or zero y operand (R280). -/
def execMacSubUuYop (z : ResultReg) (y : MacYop) (x : MacXop) (c : Cond) (s : State) : Result :=
  .next (s.macYop .sub .uu z y x c)

/-- acc − x * x (UU), squaring (R282). -/
def execMacSubUuSq (z : ResultReg) (x : MacXop) (c : Cond) (s : State) : Result := .next (s.macSquare .sub .uu z x c)

/-- acc − x * y (UU), data registers (R280). -/
def execMacSubUuReg (z : ResultReg) (y0 : Bool) (x y : Dreg) (s : State) : Result :=
  .next (s.macReg .sub .uu z y0 x y)

/-- MR = 0, SR = 0 (R283): x * 0 (SS). -/
def execClearAcc (z : ResultReg) (x : MacXop) (c : Cond) (s : State) : Result := .next (s.macYop .mul .ss z .zero x c)

/-- MR = MR (RND), SR = SR (RND) (R284): acc + x * 0 (RND). -/
def execRoundAcc (z : ResultReg) (x : MacXop) (c : Cond) (s : State) : Result :=
  .next (s.macYop .add .rnd z .zero x c)

/-- SAT MR (R287). -/
def execSatMr (s : State) : Result := .next (s.satOp .result)

/-- SAT SR (R287). -/
def execSatSr (s : State) : Result := .next (s.satOp .feedback)

end Sys2Proof.Machine
end

