-- ==== Sys2Proof/Machine/Multi.lean ====
section
/-! DEFINITION. The multifunction instructions: Types 1, 4, 8, 12 and 14 (spec/43_multifunction.md). All values are read
from the state before the instruction; the writes follow (R341). -/

namespace Sys2Proof.Machine

/-- A postmodify update: `I[i] <- dag_next(i, M[m])` with the registers of `s`, the state before the instruction
(R341, R395). -/
def State.postModify (t s : State) (g : Dag) (i m : Slot) : State := t.setIndex g i (s.dagNext g i (s.modifier g m))

/-- The address a postmodify access uses (R395). -/
def State.postAddress (s : State) (g : Dag) (i : Slot) : Addr := s.dagOut g (s.index g i)

/-- The two reads of Type 1 after its compute part `t` (R342, R343): the DM read through DAG1, the PM read through DAG2
with its low byte to PX. -/
def State.dualMove (t s : State) (pd : PmDest) (dd : DmDest) (pmi pmm dmi dmm : Slot) : State :=
  let v := s.read16 (s.postAddress .dag1 dmi)
  let w := s.read24 (s.postAddress .dag2 pmi)
  let u := (t.postModify s .dag1 dmi dmm).postModify s .dag2 pmi pmm
  ({ u with px := w.extractLsb' 0 8 }.loadDreg .moveDest (DmDest.dreg dd) v).loadDreg .pmDest (PmDest.dreg pd)
    (w.extractLsb' 8 16)

/-- Compute with dual memory read (R342): the result goes to AR or MR. -/
def execDualCompute (f : Compute) (pd : PmDest) (dd : DmDest) (pmi pmm dmi dmm : Slot) (s : State) : Result :=
  .next ((s.compute true .result f).dualMove s pd dd pmi pmm dmi dmm)

/-- Dual memory read without compute (R343). -/
def execDualRead (_unused : BitVec 5) (pd : PmDest) (dd : DmDest) (pmi pmm dmi dmm : Slot) (s : State) : Result :=
  .next (s.dualMove s pd dd pmi pmm dmi dmm)

/-- ALU/MAC with memory read (R344). -/
def execComputeRead (g : Dag) (z : ResultReg) (f : Compute) (d : Dreg) (i m : Slot) (s : State) : Result :=
  let v := s.read16 (s.postAddress g i)
  .next (((s.compute true z f).postModify s g i m).loadBeside (Compute.dests z f) d v)

/-- ALU/MAC with memory write (R345). -/
def execComputeWrite (g : Dag) (z : ResultReg) (f : Compute) (d : Dreg) (i m : Slot) (s : State) : Result :=
  let v := s.moveDatum (Compute.dests z f) d
  .next (((s.write16 (s.postAddress g i) v).compute true z f).postModify s g i m)

/-- ALU/MAC with register-to-register move (R348); `AR = AR` is the status-only form. -/
def execComputeMove (z : ResultReg) (f : Compute) (d src : Dreg) (s : State) : Result :=
  if d = .ar ∧ src = .ar then .next (s.compute false z f)
  else .next ((s.compute true z f).loadBeside (Compute.dests z f) d (s.moveDatum (Compute.dests z f) src))

/-- NONE = ALU function (R249). The bit Z has no effect: R249 has it written 0 (D7) and does not say what a word with
Z = 1 does; the model runs it as the word with Z = 0 (DEDUCED, log entry 19: R157 names the form by bits 7:0 alone, and
no register is written that Z could select). -/
def execNoneAlu (z : ResultReg) (f : AluFn) (y : AluYop) (x : AluXop) (s : State) : Result :=
  .next (s.compute false z (.alu f y x))

/-- NONE = multiplier function (R288); AMF 00000 computes nothing (R144). -/
def execNoneMac (z : ResultReg) (f : MacSel) (s : State) : Result := .next (s.compute false z (.mac f))

/-- Shift with memory read (R346). -/
def execShiftRead (g : Dag) (f : ShiftFn) (x : ShiftXop) (d : Dreg) (i m : Slot) (s : State) : Result :=
  let v := s.read16 (s.postAddress g i)
  .next (((s.shiftOp f (s.shiftX x)).postModify s g i m).loadBeside (ShiftFn.dests f) d v)

/-- Shift with memory write (R347). -/
def execShiftWrite (g : Dag) (f : ShiftFn) (x : ShiftXop) (d : Dreg) (i m : Slot) (s : State) : Result :=
  let v := s.moveDatum (ShiftFn.dests f) d
  .next (((s.write16 (s.postAddress g i) v).shiftOp f (s.shiftX x)).postModify s g i m)

/-- Shift with register-to-register move (R349). -/
def execShiftMove (f : ShiftFn) (x d src : Dreg) (s : State) : Result :=
  .next ((s.shiftOp f (s.dreg .x x)).loadBeside (ShiftFn.dests f) d (s.moveDatum (ShiftFn.dests f) src))

end Sys2Proof.Machine
end

