-- ==== Sys2Proof/Machine/Move.lean ====
section
/-! DEFINITION. The data move instructions: Types 3, 6, 7, 7a, 17, 21, 21a, 22, 22a, 29, 32, 32a, 33, 34 and 35
(spec/44_data_move.md). -/

namespace Sys2Proof.Machine

/-- Register to register (R372): a narrow source is sign-extended (R370). -/
def execMoveReg (d src : Reg) (s : State) : Result := (s.writeReg d (s.regSx src)).moveInto d

/-- The address of a direct access (R103, R374): the page is DMPG1, no bit reversal. -/
def State.directAddress (s : State) (a : Word) : Addr := s.dmpg1 ++ a

/-- The register a Type 3 IREG/MREG field names, read (R151). -/
def State.readImReg (s : State) : DagReg → Word
  | .i g n => s.dagReg g .i n
  | .m g n => s.dagReg g .m n

/-- The register a Type 3 IREG/MREG field names, loaded (R151). -/
def State.loadImReg (s : State) (r : DagReg) (v : Word) : State :=
  match r with
  | .i g n => s.loadDag g .i n v
  | .m g n => s.loadDag g .m n v

/-- Ireg or Mreg = DM(Addr16) (R374). -/
def execLoadDagDirect (a : BitVec 16) (r : DagReg) (s : State) : Result :=
  .next (s.loadImReg r (s.read16 (s.directAddress a)))

/-- DM(Addr16) = Ireg or Mreg (R374). -/
def execStoreDagDirect (a : BitVec 16) (r : DagReg) (s : State) : Result :=
  .next (s.write16 (s.directAddress a) (s.readImReg r))

/-- Dreg = DM(Addr16) (R374). -/
def execLoadDregDirect (a : BitVec 16) (d : Dreg) (s : State) : Result :=
  .next (s.loadDreg .moveDest d (s.read16 (s.directAddress a)))

/-- DM(Addr16) = Dreg (R374). -/
def execStoreDregDirect (a : BitVec 16) (d : Dreg) (s : State) : Result :=
  .next (s.write16 (s.directAddress a) (s.dreg .moveSource d))

/-- Dreg = Data16 (R376). -/
def execLoadDregImm (v : BitVec 16) (d : Dreg) (s : State) : Result := .next (s.loadDreg .moveDest d v)

/-- Reg1 = Data16 (R377). -/
def execLoadReg1Imm (v : BitVec 16) (r : Reg1) (s : State) : Result := .next (s.writeReg1 r v)

/-- Reg2 = Data16 (R377). -/
def execLoadReg2Imm (v : BitVec 16) (r : Reg2) (s : State) : Result := .next (s.writeReg2 r v)

/-- Reg3 = Data12 (R377): the immediate is zero-filled to 16 bits. -/
def execLoadReg3Imm (v : BitVec 12) (r : Reg3) (s : State) : Result :=
  (s.writeReg3 r (v.setWidth 16)).moveInto (.g3 r)

/-! ## Type 32: any core register, through an index and a modify register -/

/-- The address a premodify access uses (R395): I + M, in 16 bits, whatever L holds (D21). -/
def State.preAddress (s : State) (g : Dag) (i : Slot) (m : Word) : Addr := s.dagOut g (s.index g i + m)

/-- A 24-bit read's low byte to PX, then the register (R382; a load of PX itself wins, D24). -/
def State.loadPm (s : State) (r : Reg) (t : Code) : State :=
  { s with px := t.extractLsb' 0 8 }.writeReg r (t.extractLsb' 8 16)

/-- Reg = DM(I += M) (R379); a load of the index register itself wins over its update (D24). -/
def execDmReadPost (g : Dag) (r : Reg) (i m : Slot) (s : State) : Result :=
  ((s.postModify s g i m).writeReg r (s.read16 (s.postAddress g i))).moveInto r

/-- DM(I += M) = Reg (R380). -/
def execDmWritePost (g : Dag) (r : Reg) (i m : Slot) (s : State) : Result :=
  .next ((s.write16 (s.postAddress g i) (s.regZx r)).postModify s g i m)

/-- Reg = DM(I + M) (R381). -/
def execDmReadPre (g : Dag) (r : Reg) (i m : Slot) (s : State) : Result :=
  (s.writeReg r (s.read16 (s.preAddress g i (s.modifier g m)))).moveInto r

/-- DM(I + M) = Reg (R381). -/
def execDmWritePre (g : Dag) (r : Reg) (i m : Slot) (s : State) : Result :=
  .next (s.write16 (s.preAddress g i (s.modifier g m)) (s.regZx r))

/-- Reg = PM(I += M) (R382). -/
def execPmReadPost (g : Dag) (r : Reg) (i m : Slot) (s : State) : Result :=
  ((s.postModify s g i m).loadPm r (s.read24 (s.postAddress g i))).moveInto r

/-- PM(I += M) = Reg (R383): PX supplies bits 7:0. -/
def execPmWritePost (g : Dag) (r : Reg) (i m : Slot) (s : State) : Result :=
  .next ((s.write24 (s.postAddress g i) (s.regZx r ++ s.px)).postModify s g i m)

/-- Reg = PM(I + M) (R384). -/
def execPmReadPre (g : Dag) (r : Reg) (i m : Slot) (s : State) : Result :=
  (s.loadPm r (s.read24 (s.preAddress g i (s.modifier g m)))).moveInto r

/-- PM(I + M) = Reg (R384). -/
def execPmWritePre (g : Dag) (r : Reg) (i m : Slot) (s : State) : Result :=
  .next (s.write24 (s.preAddress g i (s.modifier g m)) (s.regZx r ++ s.px))

/-! ## Type 32a: a DAG register stored and loaded with the index -/

/-- DM(I += M) = X, X = I (R385): X gets the unmodified index. -/
def execDagStorePost (g grp : Dag) (k : DagKind) (j i m : Slot) (s : State) : Result :=
  if dagStoreAllowed g grp k j i then
    .next (((s.write16 (s.postAddress g i) (s.dagReg grp k j)).postModify s g i m).loadDag grp k j (s.index g i))
  else .refused .dagStoreOperands

/-- DM(I + M) = X, X = I + M (R385): X gets the sum, before bit reversal; I is unchanged. -/
def execDagStorePre (g grp : Dag) (k : DagKind) (j i m : Slot) (s : State) : Result :=
  if dagStoreAllowed g grp k j i then
    .next ((s.write16 (s.preAddress g i (s.modifier g m)) (s.dagReg grp k j)).loadDag grp k j
      (s.index g i + s.modifier g m))
  else .refused .dagStoreOperands

/-! ## Type 29: a data register, through an index register and an immediate -/

/-- The immediate modify value (R386): signed, to 16 bits. -/
def immModify (n : BitVec 8) : Word := n.signExtend 16

/-- Dreg = DM(I += Imm8) (R386). -/
def execImmReadPost (g : Dag) (d : Dreg) (n : BitVec 8) (i : Slot) (s : State) : Result :=
  .next ((s.setIndex g i (s.dagNext g i (immModify n))).loadDreg .moveDest d (s.read16 (s.postAddress g i)))

/-- DM(I += Imm8) = Dreg (R386). -/
def execImmWritePost (g : Dag) (d : Dreg) (n : BitVec 8) (i : Slot) (s : State) : Result :=
  .next ((s.write16 (s.postAddress g i) (s.dreg .moveSource d)).setIndex g i (s.dagNext g i (immModify n)))

/-- Dreg = DM(I + Imm8) (R387). -/
def execImmReadPre (g : Dag) (d : Dreg) (n : BitVec 8) (i : Slot) (s : State) : Result :=
  .next (s.loadDreg .moveDest d (s.read16 (s.preAddress g i (immModify n))))

/-- DM(I + Imm8) = Dreg (R387). -/
def execImmWritePre (g : Dag) (d : Dreg) (n : BitVec 8) (i : Slot) (s : State) : Result :=
  .next (s.write16 (s.preAddress g i (immModify n)) (s.dreg .moveSource d))

/-! ## Types 22 and 22a: immediate data to memory -/

/-- DM(I += M) = Data16 (R388). -/
def execStoreImm16 (g : Dag) (i m : Slot) (v : BitVec 16) (s : State) : Result :=
  .next ((s.write16 (s.postAddress g i) v).postModify s g i m)

/-- PM(I += M) = Data24:24 (R389): PX is not used. -/
def execStoreImm24 (g : Dag) (i m : Slot) (v : BitVec 24) (s : State) : Result :=
  .next ((s.write24 (s.postAddress g i) v).postModify s g i m)

/-! ## Types 34 and 35: the I/O and system control spaces -/

/-- The 18-bit I/O address (R111, R390). -/
def State.ioAddress (s : State) (a : BitVec 10) : BitVec 18 := s.iopg ++ a

/-- Dreg = IO(Addr10) (R390): what the I/O space answers is any value (P6). -/
def execIoRead (a : BitVec 10) (d : Dreg) (s : State) : Result :=
  .next (s.loadDreg .moveDest d (s.free 16 (.io (s.ioAddress a))))

/-- IO(Addr10) = Dreg (R390): the write goes out. -/
def execIoWrite (a : BitVec 10) (d : Dreg) (s : State) : Result :=
  .next { s with outputs := .io (s.ioAddress a) (s.dreg .moveSource d) :: s.outputs }

/-- The DAG of a base register's address 0 to 7 (R113, D17). -/
def baseDag (a : BitVec 8) : Dag := if a.getLsbD 2 then .dag2 else .dag1

/-- The slot of a base register's address 0 to 7 (R113, D17). -/
def baseSlot (a : BitVec 8) : Slot := Slot.ofCode (a.extractLsb' 0 2)

/-- Dreg = REG(Addr8) (R391): B0 to B7 at 0 to 7; what any other location answers is any value (P7). -/
def execSysRead (a : BitVec 8) (d : Dreg) (s : State) : Result :=
  .next (s.loadDreg .moveDest d
    (if a.ult 8#8 then (s.dagAt (baseDag a) .moveSource).b.get (baseSlot a) else s.free 16 (.sys a)))

/-- REG(Addr8) = Dreg (R391): B0 to B7 at 0 to 7; any other write goes out. -/
def execSysWrite (a : BitVec 8) (d : Dreg) (s : State) : Result :=
  let v := s.dreg .moveSource d
  if a.ult 8#8 then .next (s.updDag (baseDag a) .moveDest fun x => x.setB (baseSlot a) v)
  else .next { s with outputs := .sys a v :: s.outputs }

/-! ## Types 21 and 21a: MODIFY -/

/-- MODIFY (I += M) (R392). -/
def execModify (g : Dag) (i m : Slot) (s : State) : Result := .next (s.postModify s g i m)

/-- MODIFY (I += Imm8) (R393). -/
def execModifyImm (g : Dag) (n : BitVec 8) (i : Slot) (s : State) : Result :=
  .next (s.setIndex g i (s.dagNext g i (immModify n)))

end Sys2Proof.Machine
end

