-- ==== Sys2Proof/Machine/Shift.lean ====
section
/-! DEFINITION. The shifter instructions: Types 15 and 16 (spec/42_shifter.md). -/

namespace Sys2Proof.Machine

/-- Type 16: a shifter function of a data register, its value from SE, under a condition (R166, R304). -/
def State.condShift (s : State) (f : ShiftFn) (x : Dreg) (c : Cond) : State :=
  s.onCond c fun t => t.shiftOp f (t.dreg .x x)

/-- Type 15: ASHIFT or LSHIFT of a data register by the immediate (R306, R308). -/
def State.immShift (s : State) (arith hi orIn : Bool) (x : Dreg) (e : BitVec 8) : State :=
  s.shiftBy (s.dreg .x x) e.toInt arith hi orIn

/-- LSHIFT (HI) of a data register (R307). -/
def execLshiftHi (x : Dreg) (c : Cond) (s : State) : Result := .next (s.condShift .lshiftHi x c)

/-- SR OR LSHIFT (HI) of a data register (R307). -/
def execLshiftHiOr (x : Dreg) (c : Cond) (s : State) : Result := .next (s.condShift .lshiftHiOr x c)

/-- LSHIFT (LO) of a data register (R307). -/
def execLshiftLo (x : Dreg) (c : Cond) (s : State) : Result := .next (s.condShift .lshiftLo x c)

/-- SR OR LSHIFT (LO) of a data register (R307). -/
def execLshiftLoOr (x : Dreg) (c : Cond) (s : State) : Result := .next (s.condShift .lshiftLoOr x c)

/-- ASHIFT (HI) of a data register (R305). -/
def execAshiftHi (x : Dreg) (c : Cond) (s : State) : Result := .next (s.condShift .ashiftHi x c)

/-- SR OR ASHIFT (HI) of a data register (R305). -/
def execAshiftHiOr (x : Dreg) (c : Cond) (s : State) : Result := .next (s.condShift .ashiftHiOr x c)

/-- ASHIFT (LO) of a data register (R305). -/
def execAshiftLo (x : Dreg) (c : Cond) (s : State) : Result := .next (s.condShift .ashiftLo x c)

/-- SR OR ASHIFT (LO) of a data register (R305). -/
def execAshiftLoOr (x : Dreg) (c : Cond) (s : State) : Result := .next (s.condShift .ashiftLoOr x c)

/-- NORM (HI) of a data register (R309). -/
def execNormHi (x : Dreg) (c : Cond) (s : State) : Result := .next (s.condShift .normHi x c)

/-- SR OR NORM (HI) of a data register (R309). -/
def execNormHiOr (x : Dreg) (c : Cond) (s : State) : Result := .next (s.condShift .normHiOr x c)

/-- NORM (LO) of a data register (R309). -/
def execNormLo (x : Dreg) (c : Cond) (s : State) : Result := .next (s.condShift .normLo x c)

/-- SR OR NORM (LO) of a data register (R309). -/
def execNormLoOr (x : Dreg) (c : Cond) (s : State) : Result := .next (s.condShift .normLoOr x c)

/-- SE = EXP (HI) of a data register (R311). -/
def execExpHi (x : Dreg) (c : Cond) (s : State) : Result := .next (s.condShift .expHi x c)

/-- SE = EXP (HIX) of a data register (R311). -/
def execExpHix (x : Dreg) (c : Cond) (s : State) : Result := .next (s.condShift .expHix x c)

/-- SE = EXP (LO) of a data register (R311). -/
def execExpLo (x : Dreg) (c : Cond) (s : State) : Result := .next (s.condShift .expLo x c)

/-- SB = EXPADJ of a data register (R312). -/
def execExpAdj (x : Dreg) (c : Cond) (s : State) : Result := .next (s.condShift .expAdj x c)

/-- LSHIFT (HI) BY Imm8 (R308). -/
def execLshiftHiImm (x : Dreg) (e : BitVec 8) (s : State) : Result := .next (s.immShift false true false x e)

/-- SR OR LSHIFT (HI) BY Imm8 (R308). -/
def execLshiftHiOrImm (x : Dreg) (e : BitVec 8) (s : State) : Result := .next (s.immShift false true true x e)

/-- LSHIFT (LO) BY Imm8 (R308). -/
def execLshiftLoImm (x : Dreg) (e : BitVec 8) (s : State) : Result := .next (s.immShift false false false x e)

/-- SR OR LSHIFT (LO) BY Imm8 (R308). -/
def execLshiftLoOrImm (x : Dreg) (e : BitVec 8) (s : State) : Result := .next (s.immShift false false true x e)

/-- ASHIFT (HI) BY Imm8 (R306). -/
def execAshiftHiImm (x : Dreg) (e : BitVec 8) (s : State) : Result := .next (s.immShift true true false x e)

/-- SR OR ASHIFT (HI) BY Imm8 (R306). -/
def execAshiftHiOrImm (x : Dreg) (e : BitVec 8) (s : State) : Result := .next (s.immShift true true true x e)

/-- ASHIFT (LO) BY Imm8 (R306). -/
def execAshiftLoImm (x : Dreg) (e : BitVec 8) (s : State) : Result := .next (s.immShift true false false x e)

/-- SR OR ASHIFT (LO) BY Imm8 (R306). -/
def execAshiftLoOrImm (x : Dreg) (e : BitVec 8) (s : State) : Result := .next (s.immShift true false true x e)

end Sys2Proof.Machine
end

