-- ==== Sys2Proof/Machine/System.lean ====
section
/-! DEFINITION. The stack, interrupt and mode instructions: Types 18, 26 and 37 (spec/45_program_flow.md R461 to R467,
R470). -/

namespace Sys2Proof.Machine

/-- PUSH PC (R461). -/
def State.pushPc (s : State) : State := s.pcPush (s.stackp ++ s.stacka)

/-- PUSH LOOP (R461). -/
def State.pushLoop (s : State) : State :=
  s.lpPush ⟨s.stackp ++ s.stacka, s.lpstackp.page ++ s.lpstacka, s.lpstackp.forever, s.cntr⟩

/-- POP PC (R462). -/
def State.popPc (s : State) : State :=
  { s.pcDrop with stacka := s.pcTop.extractLsb' 0 16, stackp := s.pcTop.extractLsb' 16 8 }

/-- POP LOOP (R462). CNTR is written with the latency of R435, which speaks of any instruction that wrote it; R560's
columns do not name POP LOOP (DEDUCED, log entry 5). -/
def State.popLoop (s : State) : State :=
  let e := s.lpTop
  ({ s.lpDrop with
    stacka := e.first.extractLsb' 0 16
    stackp := e.first.extractLsb' 16 8
    lpstacka := e.last.extractLsb' 0 16
    lpstackp := ⟨e.forever, e.last.extractLsb' 16 8⟩ }).writeCntr e.count

/-- A push field, a pop field. -/
def isPush (f : StackField) : Bool := f = .push
def isPop (f : StackField) : Bool := f = .pop

/-- The SSTAT bits a stack instruction leaves free for the next one (R562): all after a PC stack operation, STKOVERFLOW
alone after a loop or status stack operation. -/
def stackBits (pc lp sts : StackField) : BitVec 8 :=
  if isPush pc || isPop pc then 0xFF#8
  else if isPush lp || isPop lp || isPush sts || isPop sts then 0x80#8
  else 0x00#8

/-- A Type 26 word (R461 to R465, D4): each field acts; the pushes read the registers before a pop writes them, and of
the PC and loop pops the PC stack's value reaches STACKA and STACKP (R464). -/
def State.stackOps (s : State) (flush : Bool) (pc lp sts : StackField) : State :=
  let t1 := if isPush pc then s.pushPc else s
  let t2 := if isPush lp then t1.pushLoop else t1
  let t3 := if isPush sts then t2.stsPush else t2
  let t4 := if isPop lp then t3.popLoop else t3
  let t5 := if isPop pc then t4.popPc else t4
  let t6 := if isPop sts then t5.popStatus else t5
  let t7 := if flush then t6.flushCache else t6
  if stackBits pc lp sts = 0 then t7 else t7.openSstat s (stackBits pc lp sts)

/-- Stack control, any combination (R463, R464). -/
def execStackControl (flush : Bool) (pc lp sts : StackField) (s : State) : Result := .next (s.stackOps flush pc lp sts)

/-- PUSH PC (R461). -/
def execPushPc (s : State) : Result := .next (s.stackOps false .push .keep0 .keep0)

/-- POP PC (R462). -/
def execPopPc (s : State) : Result := .next (s.stackOps false .pop .keep0 .keep0)

/-- PUSH LOOP (R461). -/
def execPushLoop (s : State) : Result := .next (s.stackOps false .keep0 .push .keep0)

/-- POP LOOP (R462). -/
def execPopLoop (s : State) : Result := .next (s.stackOps false .keep0 .pop .keep0)

/-- PUSH STS (R461). -/
def execPushSts (s : State) : Result := .next (s.stackOps false .keep0 .keep0 .push)

/-- POP STS (R462). -/
def execPopSts (s : State) : Result := .next (s.stackOps false .keep0 .keep0 .pop)

/-- FLUSH CACHE (R465, R123). -/
def execFlushCache (s : State) : Result := .next (s.stackOps true .keep0 .keep0 .keep0)

/-- SETINT n (R466): latched whatever GIE is. -/
def execSetInt (n : BitVec 4) (s : State) : Result := .next { s with irptl := putBit s.irptl n.toNat true }

/-- CLRINT n (R467). -/
def execClrInt (n : BitVec 4) (s : State) : Result := .next { s with irptl := putBit s.irptl n.toNat false }

/-- The mode value a Type 18 field gives, if any (R168, D3). -/
def modeValue : ModeField → Option Bool
  | .keep0 => none
  | .keep1 => none
  | .dis => some false
  | .ena => some true

/-- A bit under a mode field (R470). -/
def setMode {w : Nat} (f : ModeField) (i : Nat) (v : BitVec w) : BitVec w :=
  match modeValue f with
  | none => v
  | some b => putBit v i b

/-- A window under a mode field: a mode change by ENA or DIS has latency 0 (R470, R560). -/
def modeWindow {α : Type} (f : ModeField) (w : Window α) : Window α :=
  match modeValue f with
  | none => w
  | some _ => .closed

/-- ENA and DIS (R470): seven bits of MSTAT and ICNTL.GIE, each by its own field. -/
def execModeControl (ti mm sat ol br sr sd int : ModeField) (s : State) : Result :=
  .next { s with
    mstat := setMode sr 0 (setMode br 1 (setMode ol 2 (setMode sat 3 (setMode mm 4 (setMode ti 5 (setMode sd 6
      s.mstat))))))
    icntl := setMode int 5 s.icntl
    windows := { s.windows with
      secReg := modeWindow sr s.windows.secReg
      bitRev := modeWindow br s.windows.bitRev
      arSat := modeWindow sat s.windows.arSat
      mMode := modeWindow mm s.windows.mMode
      secDag := modeWindow sd s.windows.secDag } }

end Sys2Proof.Machine
end

