-- ==== Sys2Proof/Machine/Dispatch.lean ====
section
/-! DEFINITION. The meaning of every instruction, one arm per constructor. -/

namespace Sys2Proof.Machine

def exec (i : Instr) (s : State) : Host.Outcome State Fault Refusal :=
  match i with
  | .aluPassYop z y x c => Sys2Proof.Machine.execAluPassYop z y x c s
  | .aluPassConst z k x c => Sys2Proof.Machine.execAluPassConst z k x c s
  | .aluPassReg z y0 x y => Sys2Proof.Machine.execAluPassReg z y0 x y s
  | .aluIncYop z y x c => Sys2Proof.Machine.execAluIncYop z y x c s
  | .aluIncConst z k x c => Sys2Proof.Machine.execAluIncConst z k x c s
  | .aluIncReg z y0 x y => Sys2Proof.Machine.execAluIncReg z y0 x y s
  | .aluAddCYop z y x c => Sys2Proof.Machine.execAluAddCYop z y x c s
  | .aluAddCConst z k x c => Sys2Proof.Machine.execAluAddCConst z k x c s
  | .aluAddCReg z y0 x y => Sys2Proof.Machine.execAluAddCReg z y0 x y s
  | .aluAddYop z y x c => Sys2Proof.Machine.execAluAddYop z y x c s
  | .aluAddConst z k x c => Sys2Proof.Machine.execAluAddConst z k x c s
  | .aluAddReg z y0 x y => Sys2Proof.Machine.execAluAddReg z y0 x y s
  | .aluNotYYop z y x c => Sys2Proof.Machine.execAluNotYYop z y x c s
  | .aluNotYConst z k x c => Sys2Proof.Machine.execAluNotYConst z k x c s
  | .aluNotYReg z y0 x y => Sys2Proof.Machine.execAluNotYReg z y0 x y s
  | .aluNegYop z y x c => Sys2Proof.Machine.execAluNegYop z y x c s
  | .aluNegConst z k x c => Sys2Proof.Machine.execAluNegConst z k x c s
  | .aluNegReg z y0 x y => Sys2Proof.Machine.execAluNegReg z y0 x y s
  | .aluSubBYop z y x c => Sys2Proof.Machine.execAluSubBYop z y x c s
  | .aluSubBConst z k x c => Sys2Proof.Machine.execAluSubBConst z k x c s
  | .aluSubBReg z y0 x y => Sys2Proof.Machine.execAluSubBReg z y0 x y s
  | .aluSubYop z y x c => Sys2Proof.Machine.execAluSubYop z y x c s
  | .aluSubConst z k x c => Sys2Proof.Machine.execAluSubConst z k x c s
  | .aluSubReg z y0 x y => Sys2Proof.Machine.execAluSubReg z y0 x y s
  | .aluDecYop z y x c => Sys2Proof.Machine.execAluDecYop z y x c s
  | .aluDecConst z k x c => Sys2Proof.Machine.execAluDecConst z k x c s
  | .aluDecReg z y0 x y => Sys2Proof.Machine.execAluDecReg z y0 x y s
  | .aluRsubYop z y x c => Sys2Proof.Machine.execAluRsubYop z y x c s
  | .aluRsubConst z k x c => Sys2Proof.Machine.execAluRsubConst z k x c s
  | .aluRsubReg z y0 x y => Sys2Proof.Machine.execAluRsubReg z y0 x y s
  | .aluRsubBYop z y x c => Sys2Proof.Machine.execAluRsubBYop z y x c s
  | .aluRsubBConst z k x c => Sys2Proof.Machine.execAluRsubBConst z k x c s
  | .aluRsubBReg z y0 x y => Sys2Proof.Machine.execAluRsubBReg z y0 x y s
  | .aluNotXYop z y x c => Sys2Proof.Machine.execAluNotXYop z y x c s
  | .aluNotXConst z k x c => Sys2Proof.Machine.execAluNotXConst z k x c s
  | .aluNotXReg z y0 x y => Sys2Proof.Machine.execAluNotXReg z y0 x y s
  | .aluAndYop z y x c => Sys2Proof.Machine.execAluAndYop z y x c s
  | .aluAndConst z k x c => Sys2Proof.Machine.execAluAndConst z k x c s
  | .aluAndReg z y0 x y => Sys2Proof.Machine.execAluAndReg z y0 x y s
  | .aluOrYop z y x c => Sys2Proof.Machine.execAluOrYop z y x c s
  | .aluOrConst z k x c => Sys2Proof.Machine.execAluOrConst z k x c s
  | .aluOrReg z y0 x y => Sys2Proof.Machine.execAluOrReg z y0 x y s
  | .aluXorYop z y x c => Sys2Proof.Machine.execAluXorYop z y x c s
  | .aluXorConst z k x c => Sys2Proof.Machine.execAluXorConst z k x c s
  | .aluXorReg z y0 x y => Sys2Proof.Machine.execAluXorReg z y0 x y s
  | .aluAbsYop z y x c => Sys2Proof.Machine.execAluAbsYop z y x c s
  | .aluAbsConst z k x c => Sys2Proof.Machine.execAluAbsConst z k x c s
  | .aluAbsReg z y0 x y => Sys2Proof.Machine.execAluAbsReg z y0 x y s
  | .tstBit z n x c => Sys2Proof.Machine.execTstBit z n x c s
  | .setBit z n x c => Sys2Proof.Machine.execSetBit z n x c s
  | .clrBit z n x c => Sys2Proof.Machine.execClrBit z n x c s
  | .tglBit z n x c => Sys2Proof.Machine.execTglBit z n x c s
  | .passZero z x c => Sys2Proof.Machine.execPassZero z x c s
  | .passOne z x c => Sys2Proof.Machine.execPassOne z x c s
  | .passMinusOne z x c => Sys2Proof.Machine.execPassMinusOne z x c s
  | .passXop z x c => Sys2Proof.Machine.execPassXop z x c s
  | .negXop z x c => Sys2Proof.Machine.execNegXop z x c s
  | .macMulRndYop z y x c => Sys2Proof.Machine.execMacMulRndYop z y x c s
  | .macMulRndSq z x c => Sys2Proof.Machine.execMacMulRndSq z x c s
  | .macMulRndReg z y0 x y => Sys2Proof.Machine.execMacMulRndReg z y0 x y s
  | .macAddRndYop z y x c => Sys2Proof.Machine.execMacAddRndYop z y x c s
  | .macAddRndSq z x c => Sys2Proof.Machine.execMacAddRndSq z x c s
  | .macAddRndReg z y0 x y => Sys2Proof.Machine.execMacAddRndReg z y0 x y s
  | .macSubRndYop z y x c => Sys2Proof.Machine.execMacSubRndYop z y x c s
  | .macSubRndSq z x c => Sys2Proof.Machine.execMacSubRndSq z x c s
  | .macSubRndReg z y0 x y => Sys2Proof.Machine.execMacSubRndReg z y0 x y s
  | .macMulSsYop z y x c => Sys2Proof.Machine.execMacMulSsYop z y x c s
  | .macMulSsSq z x c => Sys2Proof.Machine.execMacMulSsSq z x c s
  | .macMulSsReg z y0 x y => Sys2Proof.Machine.execMacMulSsReg z y0 x y s
  | .macMulSuYop z y x c => Sys2Proof.Machine.execMacMulSuYop z y x c s
  | .macMulSuSq z x c => Sys2Proof.Machine.execMacMulSuSq z x c s
  | .macMulSuReg z y0 x y => Sys2Proof.Machine.execMacMulSuReg z y0 x y s
  | .macMulUsYop z y x c => Sys2Proof.Machine.execMacMulUsYop z y x c s
  | .macMulUsSq z x c => Sys2Proof.Machine.execMacMulUsSq z x c s
  | .macMulUsReg z y0 x y => Sys2Proof.Machine.execMacMulUsReg z y0 x y s
  | .macMulUuYop z y x c => Sys2Proof.Machine.execMacMulUuYop z y x c s
  | .macMulUuSq z x c => Sys2Proof.Machine.execMacMulUuSq z x c s
  | .macMulUuReg z y0 x y => Sys2Proof.Machine.execMacMulUuReg z y0 x y s
  | .macAddSsYop z y x c => Sys2Proof.Machine.execMacAddSsYop z y x c s
  | .macAddSsSq z x c => Sys2Proof.Machine.execMacAddSsSq z x c s
  | .macAddSsReg z y0 x y => Sys2Proof.Machine.execMacAddSsReg z y0 x y s
  | .macAddSuYop z y x c => Sys2Proof.Machine.execMacAddSuYop z y x c s
  | .macAddSuSq z x c => Sys2Proof.Machine.execMacAddSuSq z x c s
  | .macAddSuReg z y0 x y => Sys2Proof.Machine.execMacAddSuReg z y0 x y s
  | .macAddUsYop z y x c => Sys2Proof.Machine.execMacAddUsYop z y x c s
  | .macAddUsSq z x c => Sys2Proof.Machine.execMacAddUsSq z x c s
  | .macAddUsReg z y0 x y => Sys2Proof.Machine.execMacAddUsReg z y0 x y s
  | .macAddUuYop z y x c => Sys2Proof.Machine.execMacAddUuYop z y x c s
  | .macAddUuSq z x c => Sys2Proof.Machine.execMacAddUuSq z x c s
  | .macAddUuReg z y0 x y => Sys2Proof.Machine.execMacAddUuReg z y0 x y s
  | .macSubSsYop z y x c => Sys2Proof.Machine.execMacSubSsYop z y x c s
  | .macSubSsSq z x c => Sys2Proof.Machine.execMacSubSsSq z x c s
  | .macSubSsReg z y0 x y => Sys2Proof.Machine.execMacSubSsReg z y0 x y s
  | .macSubSuYop z y x c => Sys2Proof.Machine.execMacSubSuYop z y x c s
  | .macSubSuSq z x c => Sys2Proof.Machine.execMacSubSuSq z x c s
  | .macSubSuReg z y0 x y => Sys2Proof.Machine.execMacSubSuReg z y0 x y s
  | .macSubUsYop z y x c => Sys2Proof.Machine.execMacSubUsYop z y x c s
  | .macSubUsSq z x c => Sys2Proof.Machine.execMacSubUsSq z x c s
  | .macSubUsReg z y0 x y => Sys2Proof.Machine.execMacSubUsReg z y0 x y s
  | .macSubUuYop z y x c => Sys2Proof.Machine.execMacSubUuYop z y x c s
  | .macSubUuSq z x c => Sys2Proof.Machine.execMacSubUuSq z x c s
  | .macSubUuReg z y0 x y => Sys2Proof.Machine.execMacSubUuReg z y0 x y s
  | .clearAcc z x c => Sys2Proof.Machine.execClearAcc z x c s
  | .roundAcc z x c => Sys2Proof.Machine.execRoundAcc z x c s
  | .condNop zyx c => Sys2Proof.Machine.execCondNop zyx c s
  | .regNop z y0 x y => Sys2Proof.Machine.execRegNop z y0 x y s
  | .divs y x => Sys2Proof.Machine.execDivs y x s
  | .divq x => Sys2Proof.Machine.execDivq x s
  | .satMr => Sys2Proof.Machine.execSatMr s
  | .satSr => Sys2Proof.Machine.execSatSr s
  | .lshiftHi x c => Sys2Proof.Machine.execLshiftHi x c s
  | .lshiftHiOr x c => Sys2Proof.Machine.execLshiftHiOr x c s
  | .lshiftLo x c => Sys2Proof.Machine.execLshiftLo x c s
  | .lshiftLoOr x c => Sys2Proof.Machine.execLshiftLoOr x c s
  | .ashiftHi x c => Sys2Proof.Machine.execAshiftHi x c s
  | .ashiftHiOr x c => Sys2Proof.Machine.execAshiftHiOr x c s
  | .ashiftLo x c => Sys2Proof.Machine.execAshiftLo x c s
  | .ashiftLoOr x c => Sys2Proof.Machine.execAshiftLoOr x c s
  | .normHi x c => Sys2Proof.Machine.execNormHi x c s
  | .normHiOr x c => Sys2Proof.Machine.execNormHiOr x c s
  | .normLo x c => Sys2Proof.Machine.execNormLo x c s
  | .normLoOr x c => Sys2Proof.Machine.execNormLoOr x c s
  | .expHi x c => Sys2Proof.Machine.execExpHi x c s
  | .expHix x c => Sys2Proof.Machine.execExpHix x c s
  | .expLo x c => Sys2Proof.Machine.execExpLo x c s
  | .expAdj x c => Sys2Proof.Machine.execExpAdj x c s
  | .lshiftHiImm x e => Sys2Proof.Machine.execLshiftHiImm x e s
  | .lshiftHiOrImm x e => Sys2Proof.Machine.execLshiftHiOrImm x e s
  | .lshiftLoImm x e => Sys2Proof.Machine.execLshiftLoImm x e s
  | .lshiftLoOrImm x e => Sys2Proof.Machine.execLshiftLoOrImm x e s
  | .ashiftHiImm x e => Sys2Proof.Machine.execAshiftHiImm x e s
  | .ashiftHiOrImm x e => Sys2Proof.Machine.execAshiftHiOrImm x e s
  | .ashiftLoImm x e => Sys2Proof.Machine.execAshiftLoImm x e s
  | .ashiftLoOrImm x e => Sys2Proof.Machine.execAshiftLoOrImm x e s
  | .dualCompute f pd dd pmi pmm dmi dmm => Sys2Proof.Machine.execDualCompute f pd dd pmi pmm dmi dmm s
  | .dualRead unused pd dd pmi pmm dmi dmm => Sys2Proof.Machine.execDualRead unused pd dd pmi pmm dmi dmm s
  | .computeRead g z f d ix m => Sys2Proof.Machine.execComputeRead g z f d ix m s
  | .computeWrite g z f d ix m => Sys2Proof.Machine.execComputeWrite g z f d ix m s
  | .computeMove z f d src => Sys2Proof.Machine.execComputeMove z f d src s
  | .noneAlu z f y x => Sys2Proof.Machine.execNoneAlu z f y x s
  | .noneMac z f => Sys2Proof.Machine.execNoneMac z f s
  | .shiftRead g f x d ix m => Sys2Proof.Machine.execShiftRead g f x d ix m s
  | .shiftWrite g f x d ix m => Sys2Proof.Machine.execShiftWrite g f x d ix m s
  | .shiftMove f x d src => Sys2Proof.Machine.execShiftMove f x d src s
  | .moveReg d src => Sys2Proof.Machine.execMoveReg d src s
  | .loadDagDirect a r => Sys2Proof.Machine.execLoadDagDirect a r s
  | .storeDagDirect a r => Sys2Proof.Machine.execStoreDagDirect a r s
  | .loadDregDirect a d => Sys2Proof.Machine.execLoadDregDirect a d s
  | .storeDregDirect a d => Sys2Proof.Machine.execStoreDregDirect a d s
  | .loadDregImm v d => Sys2Proof.Machine.execLoadDregImm v d s
  | .loadReg1Imm v r => Sys2Proof.Machine.execLoadReg1Imm v r s
  | .loadReg2Imm v r => Sys2Proof.Machine.execLoadReg2Imm v r s
  | .loadReg3Imm v r => Sys2Proof.Machine.execLoadReg3Imm v r s
  | .dmReadPost g r ix m => Sys2Proof.Machine.execDmReadPost g r ix m s
  | .dmWritePost g r ix m => Sys2Proof.Machine.execDmWritePost g r ix m s
  | .dmReadPre g r ix m => Sys2Proof.Machine.execDmReadPre g r ix m s
  | .dmWritePre g r ix m => Sys2Proof.Machine.execDmWritePre g r ix m s
  | .pmReadPost g r ix m => Sys2Proof.Machine.execPmReadPost g r ix m s
  | .pmWritePost g r ix m => Sys2Proof.Machine.execPmWritePost g r ix m s
  | .pmReadPre g r ix m => Sys2Proof.Machine.execPmReadPre g r ix m s
  | .pmWritePre g r ix m => Sys2Proof.Machine.execPmWritePre g r ix m s
  | .dagStorePost g grp k j ix m => Sys2Proof.Machine.execDagStorePost g grp k j ix m s
  | .dagStorePre g grp k j ix m => Sys2Proof.Machine.execDagStorePre g grp k j ix m s
  | .immReadPost g d n ix => Sys2Proof.Machine.execImmReadPost g d n ix s
  | .immWritePost g d n ix => Sys2Proof.Machine.execImmWritePost g d n ix s
  | .immReadPre g d n ix => Sys2Proof.Machine.execImmReadPre g d n ix s
  | .immWritePre g d n ix => Sys2Proof.Machine.execImmWritePre g d n ix s
  | .storeImm16 g ix m v => Sys2Proof.Machine.execStoreImm16 g ix m v s
  | .storeImm24 g ix m v => Sys2Proof.Machine.execStoreImm24 g ix m v s
  | .ioRead a d => Sys2Proof.Machine.execIoRead a d s
  | .ioWrite a d => Sys2Proof.Machine.execIoWrite a d s
  | .sysRead a d => Sys2Proof.Machine.execSysRead a d s
  | .sysWrite a d => Sys2Proof.Machine.execSysWrite a d s
  | .modify g ix m => Sys2Proof.Machine.execModify g ix m s
  | .modifyImm g n ix => Sys2Proof.Machine.execModifyImm g n ix s
  | .doUntilCe off => Sys2Proof.Machine.execDoUntilCe off s
  | .doForever off => Sys2Proof.Machine.execDoForever off s
  | .jumpRel13 db off c => Sys2Proof.Machine.execJumpRel13 db off c s
  | .jumpRel16 db off => Sys2Proof.Machine.execJumpRel16 db off s
  | .callRel16 db off => Sys2Proof.Machine.execCallRel16 db off s
  | .longJump a c => Sys2Proof.Machine.execLongJump a c s
  | .longCall a c => Sys2Proof.Machine.execLongCall a c s
  | .jumpInd db g c ix => Sys2Proof.Machine.execJumpInd db g c ix s
  | .callInd db g c ix => Sys2Proof.Machine.execCallInd db g c ix s
  | .rts db c => Sys2Proof.Machine.execRts db c s
  | .rti db ss c => Sys2Proof.Machine.execRti db ss c s
  | .stackControl flush pc lp sts => Sys2Proof.Machine.execStackControl flush pc lp sts s
  | .pushPc => Sys2Proof.Machine.execPushPc s
  | .popPc => Sys2Proof.Machine.execPopPc s
  | .pushLoop => Sys2Proof.Machine.execPushLoop s
  | .popLoop => Sys2Proof.Machine.execPopLoop s
  | .pushSts => Sys2Proof.Machine.execPushSts s
  | .popSts => Sys2Proof.Machine.execPopSts s
  | .flushCache => Sys2Proof.Machine.execFlushCache s
  | .setInt n => Sys2Proof.Machine.execSetInt n s
  | .clrInt n => Sys2Proof.Machine.execClrInt n s
  | .nop swcd => Sys2Proof.Machine.execNop swcd s
  | .idle v => Sys2Proof.Machine.execIdle v s
  | .modeControl ti mm sat ol br sr sd int => Sys2Proof.Machine.execModeControl ti mm sat ol br sr sd int s

end Sys2Proof.Machine
end

