-- ==== Sys2Proof/Machine/Sequencer.lean ====
section
/-! DEFINITION. The program sequencer: what a step does around the instruction it executes (spec/45_program_flow.md
R431, R441, R451; spec/60_exceptions.md R504, R507; spec/70_reset_and_hazards.md R552). -/

namespace Sys2Proof.Machine

/-! ## Host events (R11, R58) -/

/-- One host event: the pins take their levels; then a hardware reset (R552), or the interrupt requests (R504). -/
def State.applyInput (s : State) (e : HostInput) : State :=
  let t := { s with pf := e.pf }
  if e.reset then t.hardReset else t.latchRequests e.irq

/-- The state after the next host event, if one is to come. -/
def State.takeEvent (s : State) : State :=
  match s.inputs with
  | [] => s
  | e :: rest => ({ s with inputs := rest }).applyInput e

/-! ## Fetch and decode (R431 step 2) -/

/-- The one or two words of the instruction at PC; a 24-bit location is needed for each (U10, U13). -/
def State.fetchWords (s : State) : Except Refusal (List Code) :=
  match s.fetchWord s.pc with
  | none => .error (.fetchWidth s.pc)
  | some w =>
    if twoWords w then
      match s.fetchWord (s.pc + 1) with
      | none => .error (.fetchWidth (s.pc + 1))
      | some v => .ok [w, v]
    else .ok [w]

/-- The instruction at PC (R102, R431); a word that is no instruction is refused (R190). -/
def State.fetch (s : State) : Except Refusal Instr :=
  match s.fetchWords with
  | .error r => .error r
  | .ok ws =>
    match decode ws with
    | .error e => .error (.undecodable e)
    | .ok (i, _) => .ok i

/-! ## Delay slots (R441) -/

/-- The instructions that may not stand in a delay slot: Types 10, 10a, 11, 19, 20 and 36, and a Type 26 word that pushes,
pops or flushes (R441, D36). A Type 26 word that does none of these is no such instruction and is executed there
(DEDUCED, log entry 19). -/
def Instr.barredFromSlot : Instr → Bool
  | .jumpRel13 _ _ _ | .jumpRel16 _ _ | .callRel16 _ _ | .longJump _ _ | .longCall _ _ => true
  | .doUntilCe _ | .doForever _ => true
  | .jumpInd _ _ _ _ | .callInd _ _ _ _ | .rts _ _ | .rti _ _ _ => true
  | .stackControl flush pc lp sts => flush || stackBits pc lp sts != 0
  | .pushPc | .popPc | .pushLoop | .popLoop | .pushSts | .popSts | .flushCache => true
  | _ => false

/-- `check_delay_slot` (R441): why the instruction at PC may not be executed now, if it may not. -/
def State.slotRefusal (s : State) (i : Instr) : Option Refusal :=
  match s.dbpend with
  | none => none
  | some d =>
    if Instr.barredFromSlot i then some .delaySlot
    else if i.size = 2 ∧ s.pc ≠ d.resume - 2 then some .delaySlotTwoWords
    else none

/-! ## After the instruction (R431 steps 4 and 5, R451) -/

/-- The address of the next word in sequence after an instruction. -/
def State.sequential (s : State) (i : Instr) : Addr := s.pc + BitVec.ofNat 24 i.size

/-- The address `loop_end_test` answers after the instruction at `a` (R451), `next` being the sequential one. -/
def State.loopTarget (s : State) (a next : Addr) : Addr :=
  match s.loopStack with
  | [] => next
  | e :: _ =>
    if a ≠ e.last then next
    else if e.forever = false ∧ e.count = 1 then next
    else e.first

/-- What `loop_end_test` does to the loop stacks (R451): the last pass pops them, any other counts down. -/
def State.loopCount (s : State) (a : Addr) : State :=
  match s.loopStack with
  | [] => s
  | e :: rest =>
    if a ≠ e.last then s
    else if e.forever = false ∧ e.count = 1 then { s with loopStack := rest }
    else { s with loopStack := { e with count := e.count - 1 } :: rest }

/-- What one more executed instruction ages: the effect-latency windows, the cache flushes under way, the tick. -/
def State.age (s : State) : State :=
  { s with windows := s.windows.age, stale := ageStale s.stale, tick := s.tick + 1 }

/-- Step 5 of R431 for a delay slot: after the slots the pending branch is made. -/
def State.resolveSlots (t : State) (next : Addr) : State :=
  match t.dbpend with
  | none => { t with pc := next }
  | some d => if next = d.resume then { t with pc := d.target, dbpend := none } else { t with pc := next }

/-- Steps 4 and 5 of R431: `t` is what executing `i` made of `s`; a taken branch, the end of a loop, the end of the
delay slots, or the next instruction in sequence. -/
def State.retire (t s : State) (i : Instr) : State :=
  let next := s.sequential i
  match t.redirect with
  | some a => { t with pc := a, redirect := none }
  | none =>
    match s.dbpend, t.dbpend with
    | some _, _ => t.resolveSlots next
    | none, some _ => { t with pc := next }
    | none, none => { t.loopCount s.pc with pc := t.loopTarget s.pc next }

/-- Steps 3 to 5 of R431: the instruction `i` at PC executed. -/
def State.execute (s : State) (i : Instr) : Result :=
  match exec i s with
  | .next t => .next (t.retire s i).age
  | .fault f => .fault f
  | .refused r => .refused r

/-- Steps 2 to 5 of R431: fetch, decode, check, execute. -/
def State.runNext (s : State) : Result :=
  match s.fetch with
  | .error r => .refused r
  | .ok i =>
    match s.slotRefusal i with
    | some r => .refused r
    | none => s.execute i

/-- One step (R431): a serviceable interrupt is taken (R507, R508); an idle core waits (R469); else one instruction. -/
def State.sequence (s : State) : Result :=
  match s.interruptNow with
  | some n => .next { s.takeInterrupt n with tick := s.tick + 1 }
  | none => if s.idle then .next { s with tick := s.tick + 1 } else s.runNext

/-! ## Placing an instruction where the next step fetches -/

/-- A region map in which the location `a` is 24 bits wide: as it was where it is so already. -/
def Params.withCode (p : Params) (a : Addr) : Params :=
  if p.width a = some .w24 then p else { p with regions := ⟨a, a, .w24, 0⟩ :: p.regions }

/-- The state with the word `v` at location `a`, fetched from memory (no earlier word seen). -/
def State.placeWord (s : State) (a : Addr) (v : Code) : State :=
  { s with
    mem := s.mem.writeLoc a v
    stale := s.stale.filter fun e => e.addr != a
    params := s.params.withCode a }

/-- The state in which the next step executes what is at PC: no event, interrupt or IDLE before it, no delay slot. -/
def State.ready (s : State) : State :=
  let t := { s with inputs := [], idle := false, dbpend := none, redirect := none }
  if t.interruptNow.isSome then { t with irptl := 0 } else t

end Sys2Proof.Machine
end

