-- ==== Sys2Proof/Machine/Step.lean ====
section
/-! DEFINITION. The step (spec/45_program_flow.md R431) and the host's way to place an instruction. -/

namespace Sys2Proof.Machine

/-- One step: the next host event, if any (R11, R58), then one interrupt, one idle cycle or one instruction (R431). -/
def step (s : State) : Host.Outcome State Fault Refusal := s.takeEvent.sequence

/-- `s` with the instruction whose bits are `w` (its first word in bits 23:0, its second in bits 47:24, bits from
`nbits` on 0) stored where the next step fetches. Memory is loaded from outside the machine (log entry 14). -/
def State.withFetchWord (s : State) (nbits w : Nat) : State :=
  let w := w % 2 ^ nbits
  ((s.placeWord s.pc (BitVec.ofNat 24 w)).placeWord (s.pc + 1) (BitVec.ofNat 24 (w / 2 ^ 24))).ready

end Sys2Proof.Machine
end

