-- ==== Sys2Proof/Safety.lean ====
section
/-! DEFINITION. What claims about runs are stated in: the states a run reaches, a run that never stops, and the
well-formedness of a state that every step keeps. -/

namespace Sys2Proof.Machine

/-- `t` is reached from `s` by steps. -/
inductive Reaches (s : State) : State → Prop where
  | start : Reaches s s
  | step {t u : State} (h : Reaches s t) (hs : step t = .next u) : Reaches s u

/-- A safe run: no state it reaches is one where the machine refuses to go on. (It never faults: R500.) -/
def RunsSafely (s : State) : Prop := ∀ t, Reaches s t → ∃ u, Machine.step t = .next u

/-- The stacks hold at most as many entries as the hardware has (R60, R61). -/
def State.stacksFit (s : State) : Bool :=
  s.pcStack.length ≤ 33 && s.loopStack.length ≤ 8 && s.statusStack.length ≤ 16

/-- A pending delayed branch is pending only in its two slots: PC is the first or the second of the two words before the
resume address (R440, R441). -/
def State.slotsFit (s : State) : Bool :=
  match s.dbpend with
  | none => true
  | some d => s.pc == d.resume - 2 || s.pc == d.resume - 1

/-- What holds of the machine between any two steps: memory in canonical form, the stacks within their depths, a pending
branch only in its slots, and no branch of a finished instruction left over. -/
def State.wellFormed (s : State) : Bool :=
  s.mem.wf && s.stacksFit && s.slotsFit && s.redirect.isNone

end Sys2Proof.Machine
end

