-- ==== Sys2Proof/Certificates/Slice0/Obligations.lean ====
section
/-! DEFINITION. The statements for the provers. The namespace `Sys2Proof.Claims` holds the words they are made of: what
the spec's rules compute, written with integers and bits and without the model's own computations where the rule allows
it. Each statement's docstring names the rules it formalises. A statement about one instruction gives the whole next
state: the fields named as changed, every other field (the memory, the program counter, every register) equal. -/

namespace Sys2Proof.Claims

open Sys2Proof.Machine

/-! ## States and registers -/

/-- No effect-latency window is open (R560): every use sees the architectural values. -/
def Settled (s : State) : Prop := s.windows = Windows.closed

/-- The data registers of the bank that MSTAT.SEC_REG selects (R24). -/
def bank (s : State) : DataRegs := s.data.get (s.mstat.getLsbD 0)

/-- The data registers of the other bank. -/
def otherBank (s : State) : DataRegs := s.data.get (!s.mstat.getLsbD 0)

/-- The registers of a DAG in the bank that MSTAT.SEC_DAG selects (R34). -/
def dagOf (s : State) (g : Dag) : DagRegs := (s.dags.get (s.mstat.getLsbD 6)).get g

/-- What evaluating a condition does to the state: NOT CE decrements CNTR (R433). -/
def afterCond (s : State) (c : Cond) : State := if c = .notCe then { s with cntr := s.cntr - 1 } else s

/-- Instruction `i`, conditional on `c`, completes: where the condition holds with the effect `Done`, else with no effect
but that of evaluating the condition (R436). -/
def Conditionally (i : Instr) (c : Cond) (s : State) (Done : State → State → Prop) : Prop :=
  if s.holds c then ∃ t, exec i s = .next t ∧ Done (afterCond s c) t else exec i s = .next (afterCond s c)

/-! ## ALU (R224 to R246) -/

/-- The exact value of an arithmetic ALU function, on whichever integers its operands stand for. -/
def aluExact (f : AluFn) (x y c : Int) : Int :=
  match f with
  | .inc => y + 1
  | .addC => x + y + c
  | .add => x + y
  | .neg => -y
  | .subB => x - y + c - 1
  | .sub => x - y
  | .dec => y - 1
  | .rsub => y - x
  | .rsubB => y - x + c - 1
  | .abs => if x < 0 then -x else x
  | _ => 0

def isSum (f : AluFn) : Bool := f = .inc || f = .addC || f = .add

def isDifference (f : AluFn) : Bool :=
  f = .neg || f = .subB || f = .sub || f = .dec || f = .rsub || f = .rsubB

def asInt (b : Bool) : Int := if b then 1 else 0

/-- The 16-bit output of an ALU function before saturation. -/
def aluValue (f : AluFn) (x y : Word) (c : Bool) : Word :=
  match f with
  | .pass => y
  | .notY => ~~~y
  | .notX => ~~~x
  | .and => x &&& y
  | .or => x ||| y
  | .xor => x ^^^ y
  | f => BitVec.ofInt 16 (aluExact f x.toInt y.toInt (asInt c))

/-- The function overflows: its exact value on signed operands is no 16-bit signed number. -/
def aluOverflows (f : AluFn) (x y : Word) (c : Bool) : Bool :=
  let e := aluExact f x.toInt y.toInt (asInt c)
  (isSum f || isDifference f || f = .abs) && (e < -32768 || 32767 < e)

/-- The carry: out of bit 15 of a sum, not borrow of a difference, on unsigned operands. -/
def aluCarries (f : AluFn) (x y : Word) (c : Bool) : Bool :=
  let e := aluExact f x.toNat y.toNat (asInt c)
  (isSum f && 65536 ≤ e) || (isDifference f && 0 ≤ e)

/-- The value written: saturated when it goes to AR, MSTAT.AR_SAT is 1 and the function overflows (R225). -/
def aluWritten (f : AluFn) (dest : Option ResultReg) (x y : Word) (s : State) : Word :=
  let c := s.astat.getLsbD 3
  if dest = some .result ∧ s.mstat.getLsbD 3 = true ∧ aluOverflows f x y c = true then
    if aluCarries f x y c then 0x8000#16 else 0x7FFF#16
  else aluValue f x y c

/-- The whole effect of an ALU function on operands `x` and `y`: the result to AR, AF or nowhere, the flags AZ, AN, AV
(sticky under MSTAT.AV_LATCH) and AC, for ABS the flag AS, and nothing else. -/
def AluDone (f : AluFn) (dest : Option ResultReg) (x y : Word) (s t : State) : Prop :=
  let c := s.astat.getLsbD 3
  let r := aluWritten f dest x y s
  bank t = (match dest with
    | none => bank s
    | some .result => { bank s with ar := r }
    | some .feedback => { bank s with af := r }) ∧
  otherBank t = otherBank s ∧
  t.astat.getLsbD 0 = decide (r.toNat = 0) ∧
  t.astat.getLsbD 1 = decide (r.toInt < 0) ∧
  t.astat.getLsbD 2 = (aluOverflows f x y c || (s.mstat.getLsbD 2 && s.astat.getLsbD 2)) ∧
  t.astat.getLsbD 3 = aluCarries f x y c ∧
  t.astat.getLsbD 4 = (if f = .abs then decide (x.toInt < 0) else s.astat.getLsbD 4) ∧
  (∀ i, 5 ≤ i → t.astat.getLsbD i = s.astat.getLsbD i) ∧
  t = { s with data := t.data, astat := t.astat }

/-- The value of an ALU YOP operand (R150, R221). -/
def aluYValue (s : State) : AluYop → Word
  | .ay0 => (bank s).ay0
  | .ay1 => (bank s).ay1
  | .af => (bank s).af
  | .zero => 0

/-- The value of an ALU XOP operand (R150). -/
def aluXValue (s : State) : AluXop → Word
  | .ax0 => (bank s).ax0
  | .ax1 => (bank s).ax1
  | .ar => (bank s).ar
  | .mr0 => (bank s).mr0
  | .mr1 => (bank s).mr1
  | .mr2 => (bank s).mr2
  | .sr0 => (bank s).sr0
  | .sr1 => (bank s).sr1

/-- The y operand a constant stands for: one bit set, or all bits but one (R146). -/
def IsConstant (k : Const) (y : Word) : Prop :=
  ∀ i, i < 16 → y.getLsbD i = ((decide (i = k.n.toNat)) ^^ k.neg)

/-! ## Multiplier (R272 to R288) -/

/-- An operand as the format reads it (R272). -/
def macInt (signed : Bool) (v : Word) : Int := if signed then v.toInt else v.toNat

def xIsSigned (fmt : MacFmt) : Bool := fmt = .rnd || fmt = .ss || fmt = .su
def yIsSigned (fmt : MacFmt) : Bool := fmt = .rnd || fmt = .ss || fmt = .us

/-- The exact value of a multiplier function: the product, doubled in fractional mode, alone or with the accumulator. -/
def macExact (op : MacOp) (acc x y : Int) (integer : Bool) : Int :=
  let p := x * y * (if integer then 1 else 2)
  match op with
  | .mul => p
  | .add => acc + p
  | .sub => acc - p

/-- A 40-bit value rounded at bit 15 (R274): its upper 24 bits to the nearest, a tie up (biased) or to even (unbiased),
its lower 16 bits as the addition of 0x8000 leaves them. -/
def rounded (biased : Bool) (v : Nat) : Nat :=
  let up := v / 65536
  let low := v % 65536
  let up' := if low < 32768 then up else if 32768 < low ∨ biased = true then up + 1 else up + up % 2
  (up' % 2 ^ 24) * 65536 + (low + 32768) % 65536

/-- The 40-bit result of a multiplier function on operands `x` and `y`, in the modes of `s` (R273 to R275). -/
def macValue (op : MacOp) (fmt : MacFmt) (z : ResultReg) (x y : Word) (s : State) : BitVec 40 :=
  let e := BitVec.ofInt 40 (macExact op ((bank s).acc z).toInt (macInt (xIsSigned fmt) x) (macInt (yIsSigned fmt) y)
    (s.mstat.getLsbD 4))
  if fmt = .rnd then BitVec.ofNat 40 (rounded (s.icntl.getLsbD 7) e.toNat) else e

/-- The registers of an accumulator holding a 40-bit value: the top register is the sign extension of bits 39:32 (R26). -/
def withAcc (r : DataRegs) (z : ResultReg) (v : BitVec 40) : DataRegs :=
  let low := v.extractLsb' 0 16
  let mid := v.extractLsb' 16 16
  let top := BitVec.ofInt 16 (v.toInt / 2 ^ 32)
  match z with
  | .result => { r with mr0 := low, mr1 := mid, mr2 := top }
  | .feedback => { r with sr0 := low, sr1 := mid, sr2 := top }

/-- A 40-bit value that no 32-bit signed number equals. -/
def exceeds32 (v : BitVec 40) : Bool := v.toInt < -2 ^ 31 || 2 ^ 31 ≤ v.toInt

/-- The whole effect of an accumulator result `v`: MR with MV (bit 6), or SR with SV (bit 8), and nothing else; with
`write = false` the flag alone. -/
def AccDone (write : Bool) (z : ResultReg) (v : BitVec 40) (s t : State) : Prop :=
  let flag := if z = .result then 6 else 8
  bank t = (if write then withAcc (bank s) z v else bank s) ∧
  otherBank t = otherBank s ∧
  (∀ i, t.astat.getLsbD i = if i = flag then exceeds32 v else s.astat.getLsbD i) ∧
  t = { s with data := t.data, astat := t.astat }

def macYValue (s : State) : MacYop → Word
  | .my0 => (bank s).my0
  | .my1 => (bank s).my1
  | .sr1 => (bank s).sr1
  | .zero => 0

def macXValue (s : State) : MacXop → Word
  | .mx0 => (bank s).mx0
  | .mx1 => (bank s).mx1
  | .ar => (bank s).ar
  | .mr0 => (bank s).mr0
  | .mr1 => (bank s).mr1
  | .mr2 => (bank s).mr2
  | .sr0 => (bank s).sr0
  | .sr1 => (bank s).sr1

/-! ## Shifter (R302 to R312) -/

/-- A number shifted by a signed count: multiplied by a power of two, or divided rounding down. -/
def shiftInt (n k : Int) : Int := if 0 ≤ k then n * 2 ^ k.toNat else n / 2 ^ (-k).toNat

/-- The 40-bit output of LSHIFT (`arith = false`) or ASHIFT by `k`, from SR1's place (HI) or SR0's (LO). -/
def shiftOut (arith hi : Bool) (x : Word) (k : Int) : BitVec 40 :=
  BitVec.ofInt 40 (shiftInt ((if arith then x.toInt else x.toNat) * (if hi then 65536 else 1)) k)

/-- The 40-bit output of NORM with exponent `e` (R309): a shift by −e; (LO) logical, (HI) arithmetic, where a shift to the
right brings in the carry AC instead of the sign. -/
def normOut (hi : Bool) (x : Word) (e : Int) (ac : Bool) : BitVec 40 :=
  let sign := if -e < 0 then ac else decide (x.toInt < 0)
  BitVec.ofInt 40 (shiftInt (if hi then ((x.toNat : Int) - if sign then 65536 else 0) * 65536 else x.toNat) (-e))

/-- The shift value held in SE: its low eight bits, signed (R302). -/
def seValue (s : State) : Int := ((bank s).se.extractLsb' 0 8).toInt

/-- A shifter output passed to SR, or ORed into it (R303). -/
def srWith (orIn : Bool) (s : State) (out : BitVec 40) : BitVec 40 :=
  if orIn then (bank s).acc .feedback ||| out else out

/-- The output of a shifter function that writes SR, on input `x`. -/
def shiftResult (f : ShiftFn) (x : Word) (s : State) : Option (BitVec 40) :=
  let k := seValue s
  let ac := s.astat.getLsbD 3
  match f with
  | .lshiftHi => some (srWith false s (shiftOut false true x k))
  | .lshiftHiOr => some (srWith true s (shiftOut false true x k))
  | .lshiftLo => some (srWith false s (shiftOut false false x k))
  | .lshiftLoOr => some (srWith true s (shiftOut false false x k))
  | .ashiftHi => some (srWith false s (shiftOut true true x k))
  | .ashiftHiOr => some (srWith true s (shiftOut true true x k))
  | .ashiftLo => some (srWith false s (shiftOut true false x k))
  | .ashiftLoOr => some (srWith true s (shiftOut true false x k))
  | .normHi => some (srWith false s (normOut true x k ac))
  | .normHiOr => some (srWith true s (normOut true x k ac))
  | .normLo => some (srWith false s (normOut false x k ac))
  | .normLoOr => some (srWith true s (normOut false x k ac))
  | _ => none

/-- `e` is the exponent of a word (R311): −k for the largest k up to 15 by which the word can be shifted left and keep
its sign. -/
def IsExponent (x : Word) (e : Int) : Prop :=
  ∃ k : Nat, k ≤ 15 ∧ e = -(k : Int) ∧ (-32768 ≤ x.toInt * 2 ^ k ∧ x.toInt * 2 ^ k ≤ 32767) ∧
    (k < 15 → ¬(-32768 ≤ x.toInt * 2 ^ (k + 1) ∧ x.toInt * 2 ^ (k + 1) ≤ 32767))

/-- `n` is the number of leading bits of a word equal to `b` (R311). -/
def LeadingBits (x : Word) (b : Bool) (n : Nat) : Prop :=
  n ≤ 16 ∧ (∀ i, i < n → x.getLsbD (15 - i) = b) ∧ (n < 16 → x.getLsbD (15 - n) ≠ b)

/-- The whole effect of EXP: SE and, but for (LO), the flag SS; and nothing else. -/
def ExpDone (se : Word) (ss : Bool) (s t : State) : Prop :=
  bank t = { bank s with se := se } ∧ otherBank t = otherBank s ∧
  (∀ i, t.astat.getLsbD i = if i = 7 then ss else s.astat.getLsbD i) ∧
  t = { s with data := t.data, astat := t.astat }

/-! ## Moves, loads and stores -/

/-- A 16-bit value as register `r` keeps it (R370, R371): the narrow registers keep their low bits, LPSTACKP bits 15 and
7:0. -/
def kept (r : Reg) (v : Word) : Word :=
  match r with
  | .g3 .astat => v &&& 0x01FF#16
  | .g3 .mstat => v &&& 0x007F#16
  | .g3 .lpstackp => v &&& 0x80FF#16
  | .g3 .ccode => v &&& 0x000F#16
  | .g3 .px | .g3 .dmpg1 | .g3 .dmpg2 | .g3 .iopg | .g3 .ijpg | .g3 .stackp => v &&& 0x00FF#16
  | _ => v

/-- The content of register `r` in `t`, read in the banks that `s` selects (so that a change of MSTAT does not change which
register is meant). -/
def content (s t : State) (r : Reg) : Word :=
  if r = .g3 .mstat then t.mstat.setWidth 16
  else ({ t with mstat := s.mstat, windows := Windows.closed }).regZx r

/-- The registers that move along with a load of `r` (R371): MR2 with MR1, SR2 with SR1. -/
def broughtAlong (r : Reg) : List Reg :=
  match r with
  | .g0 .mr1 => [.g0 .mr2]
  | .g0 .sr1 => [.g0 .sr2]
  | _ => []

/-- Effect-latency windows after a write of MSTAT by a register load or a status pop (R560), `m` being MSTAT before it: open
for one or three more instructions, AV_LATCH without latency (log entry 5). -/
def mstatWindows (m : BitVec 7) (w : Windows) : Windows :=
  { w with
    secReg := ⟨[m.getLsbD 0], 2⟩
    bitRev := ⟨[m.getLsbD 1], 4⟩
    arSat := ⟨[m.getLsbD 3], 2⟩
    mMode := ⟨[m.getLsbD 4], 2⟩
    secDag := ⟨[m.getLsbD 6], 4⟩ }

/-- The effect-latency windows after a write of register `r` in a state where none was open (R560): the registers of
Table 6-2 open theirs, any other register opens none. -/
def windowsAfter (r : Reg) (s : State) : Windows :=
  match r with
  | .g3 .astat => { s.windows with astat := ⟨[s.astat], 2⟩ }
  | .g3 .mstat => mstatWindows s.mstat s.windows
  | .g3 .ccode => { s.windows with ccode := ⟨[s.ccode], 2⟩ }
  | .g2 .cntr => { s.windows with cntr := ⟨[s.cntr], 2⟩ }
  | .g1 .icntl => { s.windows with icntl := ⟨[s.icntl], 2⟩ }
  | .g1 .imask => { s.windows with imask := ⟨[s.imask], 2⟩ }
  | _ => s.windows

/-- A write of `v` into `r` sets PCSTKE anew while the PC stack stands at a level mark, so that the stack interrupt may be
latched or not (R512, V6; log entry 11). -/
def MayLatchLevel (r : Reg) (v : Word) (s : State) : Prop :=
  r = .g1 .icntl ∧ s.icntl.getLsbD 10 = false ∧ v.getLsbD 10 = true ∧ (28 ≤ s.pcStack.length ∨ s.pcStack.length ≤ 3)

/-- The whole effect of writing `v` into register `r`: what `r` keeps of it, the sign fill of MR2 or SR2, the
effect-latency window of `r`, and nothing else; a write of ICNTL that sets PCSTKE may latch interrupt 3 (R512, V6). -/
def Moved (r : Reg) (v : Word) (s t : State) : Prop :=
  content s t r = kept r v ∧
  (∀ q, q ∈ broughtAlong r → content s t q = if v.toInt < 0 then 0xFFFF#16 else 0) ∧
  (∀ q, q ≠ r → q ∉ broughtAlong r → q ≠ .g1 .irptl → content s t q = content s s q) ∧
  (∀ i, (i = 3 → ¬MayLatchLevel r v s) →
    t.irptl.getLsbD i = if r = .g1 .irptl then v.getLsbD i else s.irptl.getLsbD i) ∧
  (MayLatchLevel r v s → s.irptl.getLsbD 3 = true → t.irptl.getLsbD 3 = true) ∧
  (t.data.get (s.mstat.getLsbD 0)).af = (bank s).af ∧
  t.data.get (!s.mstat.getLsbD 0) = otherBank s ∧
  (∀ g, ((t.dags.get (s.mstat.getLsbD 6)).get g).b = (dagOf s g).b) ∧
  t.dags.get (!s.mstat.getLsbD 6) = s.dags.get (!s.mstat.getLsbD 6) ∧
  t = { s with data := t.data, dags := t.dags, px := t.px, dmpg1 := t.dmpg1, dmpg2 := t.dmpg2, iopg := t.iopg
               ijpg := t.ijpg, astat := t.astat, mstat := t.mstat, imask := t.imask, irptl := t.irptl, icntl := t.icntl
               cntr := t.cntr, ccode := t.ccode, stacka := t.stacka, stackp := t.stackp, lpstacka := t.lpstacka
               lpstackp := t.lpstackp, windows := windowsAfter r s }

/-- The address an index-register access puts on the bus (R103, R104): the DAG's page, then the offset, its bits reversed
for DAG1 under MSTAT.BIT_REV. -/
def busAddress (s : State) (g : Dag) (a : Word) : Addr :=
  (match g with | .dag1 => s.dmpg1 | .dag2 => s.dmpg2) ++
    (if g = .dag1 ∧ s.mstat.getLsbD 1 = true then a.reverse else a)

/-- `I[i]` and `M[m]` of a DAG, and its length and base registers with number `i`. -/
def idx (s : State) (g : Dag) (i : Slot) : Word := (dagOf s g).i.get i
def mdf (s : State) (g : Dag) (m : Slot) : Word := (dagOf s g).m.get m
def len (s : State) (g : Dag) (i : Slot) : Word := (dagOf s g).l.get i
def bas (s : State) (g : Dag) (i : Slot) : Word := (dagOf s g).b.get i

/-- The index register after a modification by `m` (R395): the sum, in 16 bits, and with a length register other than 0
one wrap back into the buffer of that base and length. -/
def nextIndex (s : State) (g : Dag) (i : Slot) (m : Word) : Word :=
  let sum := ((idx s g i).toNat : Int) + m.toInt
  let b : Int := (bas s g i).toNat
  let l : Int := (len s g i).toNat
  BitVec.ofInt 16 (if l = 0 then sum else if b + l ≤ sum then sum - l else if sum < b then sum + l else sum)

/-- `t` is `s` with one index register of the selected bank changed. -/
def withIndex (s : State) (g : Dag) (i : Slot) (v : Word) : State :=
  { s with dags := s.dags.set (s.mstat.getLsbD 6) ((s.dags.get (s.mstat.getLsbD 6)).set g
      { dagOf s g with i := (dagOf s g).i.set i v }) }

/-- Every byte outside the location `a` is as before. -/
def OnlyAt (a : Addr) (s t : State) : Prop :=
  ∀ key, key < 3 * a.toNat ∨ 3 * a.toNat + 2 < key → t.mem.readByte key = s.mem.readByte key

/-- A 16-bit store (R107): a 16-bit location gets the value, a 24-bit location gets it in bits 23:8 with 0 below, a
location that does not exist gets nothing; every byte outside the location is as before. -/
def StoredDm (a : Addr) (v : Word) (s t : State) : Prop :=
  OnlyAt a s t ∧
  match s.params.width a with
  | some .w16 => (t.mem.readLoc a).extractLsb' 0 16 = v
  | some .w24 => t.mem.readLoc a = v ++ 0x00#8
  | none => t.mem = s.mem

/-- A 24-bit store (R107): a 24-bit location gets the value, a 16-bit location its bits 23:8. -/
def StoredPm (a : Addr) (v : Code) (s t : State) : Prop :=
  OnlyAt a s t ∧
  match s.params.width a with
  | some .w24 => t.mem.readLoc a = v
  | some .w16 => (t.mem.readLoc a).extractLsb' 0 16 = v.extractLsb' 8 16
  | none => t.mem = s.mem

/-- `t` is `s` but for memory and the model's list of words a fetch may still see (log entry 6). -/
def MemoryOnly (s t : State) : Prop := t = { s with mem := t.mem, stale := t.stale }

/-- A fetch from the 24-bit location `a` may see the word `x`: the location's, or one it held before a write that no cache
flush has followed long enough ago (R123; log entry 6). -/
def MaySee (s : State) (a : Addr) (x : Code) : Prop :=
  x = s.mem.readLoc a ∨ ∃ w, w ∈ s.stale ∧ w.addr = a ∧ w.old = x

/-! ## The next instructions (R560) -/

/-- `k` executed instructions later, as far as the windows and the cache flushes under way go. -/
def aged : Nat → State → State
  | 0, s => s
  | k + 1, s => (aged k s).age

/-- What a use `see` sees after a write of latency `n` that left the state `t` (R560): in each of the next `n`
instructions the value before or the value written, and from then on the value written. -/
def Latent {α : Type} (n : Nat) (see : State → α) (old new : α) (t : State) : Prop :=
  ∀ k, 1 ≤ k → (see (aged k t) = old ∨ see (aged k t) = new) ∧ (n < k → see (aged k t) = new)

/-- `Latent` for every field of MSTAT that the machine uses, written with `v` by a register load or a status pop (R560). -/
def MstatLatent (s : State) (v : BitVec 7) (t : State) : Prop :=
  (∀ r, Latent 1 (fun u => u.secReg r) (s.mstat.getLsbD 0) (v.getLsbD 0) t) ∧
  Latent 3 (fun u => u.bitRev) (s.mstat.getLsbD 1) (v.getLsbD 1) t ∧
  Latent 0 (fun u => u.avLatch) (s.mstat.getLsbD 2) (v.getLsbD 2) t ∧
  Latent 1 (fun u => u.arSat) (s.mstat.getLsbD 3) (v.getLsbD 3) t ∧
  Latent 1 (fun u => u.mMode) (s.mstat.getLsbD 4) (v.getLsbD 4) t ∧
  ∀ g q, Latent 3 (fun u => u.secDag g q) (s.mstat.getLsbD 6) (v.getLsbD 6) t

/-- The bit `b` of SSTAT as it is read after the instruction that made `t` of `s` (R562): for one instruction the bit
before or the bit after it (`free`), or at once the bit after it. -/
def SstatLatent (free : Bool) (b : Nat) (s t : State) : Prop :=
  Latent (if free then 1 else 0) (fun u => u.sstatRead.getLsbD b) (s.sstat.getLsbD b) (t.sstat.getLsbD b) t

/-- The register a Type 3 IREG/MREG field names (R151). -/
def imReg : DagReg → Reg
  | .i .dag1 .s0 => .g1 .i0 | .i .dag1 .s1 => .g1 .i1 | .i .dag1 .s2 => .g1 .i2 | .i .dag1 .s3 => .g1 .i3
  | .i .dag2 .s0 => .g2 .i4 | .i .dag2 .s1 => .g2 .i5 | .i .dag2 .s2 => .g2 .i6 | .i .dag2 .s3 => .g2 .i7
  | .m .dag1 .s0 => .g1 .m0 | .m .dag1 .s1 => .g1 .m1 | .m .dag1 .s2 => .g1 .m2 | .m .dag1 .s3 => .g1 .m3
  | .m .dag2 .s0 => .g2 .m4 | .m .dag2 .s1 => .g2 .m5 | .m .dag2 .s2 => .g2 .m6 | .m .dag2 .s3 => .g2 .m7

/-- A DAG register as a core register. -/
def kindReg (g : Dag) (k : DagKind) (n : Slot) : Reg :=
  match k with
  | .i => imReg (.i g n)
  | .m => imReg (.m g n)
  | .l => match g, n with
    | .dag1, .s0 => .g1 .l0 | .dag1, .s1 => .g1 .l1 | .dag1, .s2 => .g1 .l2 | .dag1, .s3 => .g1 .l3
    | .dag2, .s0 => .g2 .l4 | .dag2, .s1 => .g2 .l5 | .dag2, .s2 => .g2 .l6 | .dag2, .s3 => .g2 .l7

/-! ## Multifunction instructions (R340 to R350) -/

/-- The instruction that does the compute part alone. -/
def computeAlone (z : ResultReg) : Compute → Instr
  | .alu f y x => Instr.aluYop f z y x .always
  | .mac (.mac op fmt y x) => Instr.macYop op fmt z y x .always
  | .mac (.nop _) => .nop 0

/-- The instruction that writes the flags of a compute alone: `NONE =`. -/
def flagsAlone (z : ResultReg) : Compute → Instr
  | .alu f y x => .noneAlu z f y x
  | .mac f => .noneMac z f

/-- `t` has the two results of a compute and of a move, both made from `s`: the data registers the move writes (`loaded`)
as in `w`, those the compute writes (`computed`) and AF, SE, SB as in `u`, those neither writes as in `s`, the flags as in
`u`; a register that both write is not spoken of (R350, V3). -/
def Merged (computed loaded : List Dreg) (s u w t : State) : Prop :=
  t.astat = u.astat ∧
  (∀ r, r ∉ computed → (bank t).get r = (bank w).get r) ∧
  (∀ r, r ∉ loaded → (bank t).get r = (bank u).get r) ∧
  (bank t).af = (bank u).af ∧ (bank t).se = (bank u).se ∧ (bank t).sb = (bank u).sb ∧
  otherBank t = otherBank s

/-! ## Flow and stacks (R440, R444) -/

/-- A taken branch: at once, or after the two delay slots (R440). -/
def Branched (target : Addr) (delayed : Bool) (s : State) : State :=
  if delayed then { s with dbpend := some ⟨target, s.pc + 3⟩ } else { s with redirect := some target }

/-- A PC stack push (R444): a full stack overflows; with PCSTKE set the 28th entry requests the stack interrupt. -/
def pushedPc (v : Addr) (s : State) : State :=
  if 33 ≤ s.pcStack.length then { s with sov := true, irptl := s.irptl ||| 8 }
  else { s with
    pcStack := v :: s.pcStack
    irptl := if s.pcStack.length = 27 ∧ s.icntl.getLsbD 10 = true then s.irptl ||| 8 else s.irptl }

/-- A PC stack pop (R444): an empty stack underflows; with PCSTKE set the fall to 3 entries requests the interrupt. -/
def poppedPc (s : State) : State :=
  match s.pcStack with
  | [] => { s with sov := true, irptl := s.irptl ||| 8 }
  | _ :: rest => { s with
    pcStack := rest
    irptl := if rest.length = 3 ∧ s.icntl.getLsbD 10 = true then s.irptl ||| 8 else s.irptl }

/-- A status stack push (R444). -/
def pushedSts (s : State) : State :=
  if 16 ≤ s.statusStack.length then { s with sov := true, irptl := s.irptl ||| 8 }
  else { s with statusStack := ⟨s.astat, s.mstat⟩ :: s.statusStack }

/-- A loop stack push (R444). -/
def pushedLoop (e : LoopEntry) (s : State) : State :=
  if 8 ≤ s.loopStack.length then { s with sov := true, irptl := s.irptl ||| 8 }
  else { s with loopStack := e :: s.loopStack }

/-- What a pop of the status stack does to it (R444): an empty stack underflows. -/
def poppedSts (s : State) : State :=
  match s.statusStack with
  | [] => { s with sov := true, irptl := s.irptl ||| 8 }
  | _ :: rest => { s with statusStack := rest }

/-- A status entry restored (R459, R462): ASTAT, acting at once, and MSTAT with the latencies of the POP STS column. -/
def restored (f : StatusEntry) (u : State) : State :=
  { u with
    astat := f.astat
    mstat := f.mstat
    windows := mstatWindows u.mstat { u.windows with astat := ⟨[], 0⟩ } }

/-- The windows `w`, and that of SSTAT after a stack operation on `s` (R562): `bits` may be read as in `s` for `n` more
instructions, the one being executed included. -/
def sstatOpened (s : State) (bits : BitVec 8) (n : Nat) (w : Windows) : Windows :=
  { w with sstat := ⟨bits &&& ~~~s.sstat, bits &&& s.sstat, n⟩ }

/-- `u` with the SSTAT window that the instruction before which the state was `s` leaves (R562). -/
def ReadBack (s : State) (bits : BitVec 8) (u : State) : State :=
  { u with windows := sstatOpened s bits 2 u.windows }

/-- A stack field that pushes or pops. -/
def acts (f : StackField) : Bool := f = .push || f = .pop

/-- The SSTAT bits that stack fields leave free for the next instruction (R562): all after a PC stack operation,
STKOVERFLOW after one of the others alone. -/
def stackFree (pc lp sts : StackField) : BitVec 8 :=
  if acts pc then 0xFF else if acts lp || acts sts then 0x80 else 0

/-- Nothing but the instruction at PC happens in the next step: no host event, no interrupt, not idle. -/
def Quiet (s : State) : Prop := s.inputs = [] ∧ s.interruptNow = none ∧ s.idle = false

/-- Interrupt `n` can be taken (R505, R506; interrupt 0 always, R513). -/
def CanInterrupt (s : State) (n : Nat) : Prop :=
  n < 16 ∧ s.irptl.getLsbD n = true ∧
  (n = 0 ∨ (s.icntl.getLsbD 5 = true ∧ (n = 1 ∨ s.imask.getLsbD n = true))) ∧
  (n = 0 ∨ s.inService = 0 ∨ (s.icntl.getLsbD 4 = true ∧ ∀ k, k ≤ n → s.inService.getLsbD k = false))

/-- A mode field's new value of a bit that was `b` (R168). -/
def modeBit (f : ModeField) (b : Bool) : Bool :=
  match f with
  | .ena => true
  | .dis => false
  | _ => b

/-- The truth of a condition by the flags (R432, R433, R434). -/
def CondTruth (s : State) (c : Cond) : Prop :=
  let az := s.astat.getLsbD 0 = true
  let an := s.astat.getLsbD 1 = true
  let av := s.astat.getLsbD 2 = true
  let less := ¬(an ↔ av)
  let k := s.ccode.toNat
  let sw := if k = 8 then s.astat.getLsbD 4 = true
    else if k = 9 then s.astat.getLsbD 8 = true
    else if k < 8 then s.pf.getLsbD k = true else s.pf.getLsbD (k - 2) = true
  match c with
  | .eq => az
  | .ne => ¬az
  | .gt => ¬(less ∨ az)
  | .le => less ∨ az
  | .lt => less
  | .ge => ¬less
  | .av => av
  | .notAv => ¬av
  | .ac => s.astat.getLsbD 3 = true
  | .notAc => ¬s.astat.getLsbD 3 = true
  | .swcond => sw
  | .notSwcond => ¬sw
  | .mv => s.astat.getLsbD 6 = true
  | .notMv => ¬s.astat.getLsbD 6 = true
  | .notCe => 1 < s.cntr.toNat
  | .always => True

end Sys2Proof.Claims

open Sys2Proof Sys2Proof.Machine Sys2Proof.Claims

/-! ## Encoding -/

/-- R140, R152 to R188: decoding the words of a well-formed instruction gives it back, and the words after it
untouched; where two rows of the table have one word, the more specific row (`specialise`, R191, R192). Blank bits
written 0 (D7), the choice between rows (D9 and log entry 15) and the field codes of D3, D4, D8 are the spec's
decisions and the model's choice: log entries 15 and 19. -/
def Obligations.DecodingAnEncodingGivesItBack : Prop :=
  ∀ (i : Instr) (rest : List Code), i.wellFormed = true → decode (encode i ++ rest) = .ok (specialise i, rest)

/-- Where two rows of the table have one word (R157, R178, R191, R192), both rows mean the same on every state. Which
row the decoder answers is the model's choice: log entry 15. -/
def Obligations.SharedWordsHaveOneMeaning : Prop :=
  ∀ (i : Instr) (s : State), exec (specialise i) s = exec i s

/-- Words written out bit by bit from the rules' patterns (R152 to R188), one of each family, decode to the
instructions they stand for. Row choice and blank bits: log entries 15 and 19. -/
def Obligations.WrittenOutWordsDecode : Prop :=
  decode [0b001000100110000000001111#24] = .ok (.aluAddYop .result .ay0 .ax0 .always, []) ∧
  decode [0b001001001000000100000000#24] = .ok (.macMulSsYop .feedback .my0 .mx1 .eq, []) ∧
  decode [0b000011100100101100001111#24] = .ok (.ashiftHi .si .always, []) ∧
  decode [0b111111101110000001001100#24] = .ok (.dualCompute (.alu .sub .ay0 .ax0) .my1 .mx1 .s1 .s0 .s3 .s0, []) ∧
  decode [0b010000010010001101001010#24] = .ok (.loadDregImm 0x1234 .ar, []) ∧
  decode [0b000101010100000000000110#24] = .ok (.dmReadPost .dag1 (.g0 .ax0) .s1 .s2, []) ∧
  decode [0b000001010000000000011111#24, 0b000000100011010001010000#24]
    = .ok (.longJump 0x012345 .always, []) ∧
  decode [0b000010100100000011110000#24] = .ok (.rti false false .always, []) ∧
  decode [0b000001110000000000001100#24] = .ok (.setInt 12, [])

/-! ## The machine -/

/-- R431: where the words at PC decode to an instruction and nothing else comes first, the step executes it, and then
retires it (branch, loop end, delay slots, or the next address) and ages the windows. The order of `retire` and `age`
is the model's reading of R431 and R560: log entries 5 and 16. -/
def Obligations.StepRunsTheDecodedInstruction : Prop :=
  ∀ (s : State) (ws rest : List Code) (i : Instr), Quiet s → s.fetchWords = .ok ws → decode ws = .ok (i, rest) →
    s.slotRefusal i = none →
    step s = match exec i s with
      | .next t => .next (t.retire s i).age
      | .fault f => .fault f
      | .refused r => .refused r

/-- R431 steps 4 and 5, R451: after an instruction that neither branches nor stands in a delay slot, PC is the next
address in sequence, unless the innermost loop ends there: then its last pass falls out and pops it, any other pass
counts down and goes back to its beginning. Rests on the spec's decisions D30, D31, D42: log entry 22. -/
def Obligations.SequentialFlowAndLoopEnds : Prop :=
  ∀ (s t : State) (i : Instr), Quiet s → s.fetch = .ok i → s.dbpend = none → exec i s = .next t →
    t.redirect = none → t.dbpend = none →
    ∃ u, step s = .next u ∧ u.cntr = t.cntr ∧ u.mem = t.mem ∧ u.data = t.data ∧
      match t.loopStack with
      | [] => u.pc = s.pc + BitVec.ofNat 24 i.size ∧ u.loopStack = []
      | e :: rest =>
        if s.pc = e.last then
          if e.forever = false ∧ e.count = 1 then
            u.pc = s.pc + BitVec.ofNat 24 i.size ∧ u.loopStack = rest
          else u.pc = e.first ∧ u.loopStack = ⟨e.first, e.last, e.forever, e.count - 1⟩ :: rest
        else u.pc = s.pc + BitVec.ofNat 24 i.size ∧ u.loopStack = e :: rest

/-- R431, R440: a taken immediate branch goes to its target; a delayed one waits, PC going on in sequence. Rests on
the spec's decisions D31, D32, D42 and the model's `redirect`: log entries 16 and 22. -/
def Obligations.BranchesAreMade : Prop :=
  ∀ (s t : State) (i : Instr), Quiet s → s.fetch = .ok i → s.dbpend = none → exec i s = .next t →
    (∀ a, t.redirect = some a → ∃ u, step s = .next u ∧ u.pc = a ∧ u.redirect = none ∧ u.loopStack = t.loopStack) ∧
    (∀ d, t.redirect = none → t.dbpend = some d →
      ∃ u, step s = .next u ∧ u.pc = s.pc + BitVec.ofNat 24 i.size ∧ u.dbpend = some d ∧ u.loopStack = t.loopStack)

/-- R440, R441: with a delayed branch pending no interrupt is taken; a branch or loop instruction, or a word that
pushes, pops or flushes, in a slot is refused, a two-word instruction outside the first slot too; any other
instruction is executed, and after the last slot word the branch is made. Rests on the spec's decisions D32, D33, D36:
log entries 19 and 22. That a Type 26 word which does none of these is executed is the model's reading: log entry 19.
-/
def Obligations.DelaySlotsThenTheBranch : Prop :=
  ∀ (s : State) (i : Instr) (d : DelayedBranch), s.inputs = [] → s.idle = false → s.redirect = none →
    s.fetch = .ok i → s.dbpend = some d →
    if Instr.barredFromSlot i then step s = .refused .delaySlot
    else if i.size = 2 ∧ s.pc ≠ d.resume - 2 then step s = .refused .delaySlotTwoWords
    else ∃ u, step s = .next u ∧
      if s.pc + BitVec.ofNat 24 i.size = d.resume then u.pc = d.target ∧ u.dbpend = none
      else u.pc = s.pc + BitVec.ofNat 24 i.size ∧ u.dbpend = some d

/-- Memory in canonical form, the stacks within their depths (R60), a pending branch only in its two slots (R441), and
no finished branch left over: every step keeps this, from every such state. The canonical form of memory is the
model's own: log entry 3. -/
def Obligations.EveryStepKeepsTheStateWellFormed : Prop :=
  ∀ s t : State, s.wellFormed = true → step s = .next t → t.wellFormed = true

/-- The state after reset is well formed. The canonical form of memory is the model's own: log entry 3. -/
def Obligations.TheResetStateIsWellFormed : Prop := State.reset.wellFormed = true

/-- R551: the registers whose reset value the spec gives hold it after reset. Most of these values are the spec's
decision D40: log entry 27. -/
def Obligations.ResetGivesTheListedValues : Prop :=
  let s := State.reset
  s.pc = s.params.resetPc ∧ s.astat = 0 ∧ s.mstat = 0 ∧ s.sstat = 0x55 ∧ s.imask = 0 ∧ s.irptl = 0 ∧ s.icntl = 0 ∧
  s.dmpg1 = 0 ∧ s.dmpg2 = 0 ∧ s.iopg = 0 ∧ s.ijpg = 0 ∧
  s.pcStack = [] ∧ s.loopStack = [] ∧ s.statusStack = [] ∧
  s.dbpend = none ∧ s.idle = false ∧ s.inService = 0 ∧ Settled s

/-- R552: a hardware reset, whatever the core was doing, puts the listed values in place before the next instruction,
and leaves memory alone. The values and what the reset keeps are the spec's decision D40 and the model's choice: log
entries 13, 18 and 27. -/
def Obligations.HardwareResetAtAnyTime : Prop :=
  ∀ (s : State) (e : HostInput) (rest : List HostInput), s.inputs = e :: rest → e.reset = true →
    let t := s.takeEvent
    t.pc = s.params.resetPc ∧ t.astat = 0 ∧ t.mstat = 0 ∧ t.sstat = 0x55 ∧ t.imask = 0 ∧ t.irptl = 0 ∧ t.icntl = 0 ∧
    t.dmpg1 = 0 ∧ t.dmpg2 = 0 ∧ t.iopg = 0 ∧ t.ijpg = 0 ∧
    t.pcStack = [] ∧ t.loopStack = [] ∧ t.statusStack = [] ∧ t.dbpend = none ∧ t.idle = false ∧ t.inService = 0 ∧
    Settled t ∧ (∀ k, t.mem.readByte k = s.mem.readByte k) ∧ t.inputs = rest ∧ t.pf = e.pf ∧
    t.interruptNow = none ∧ step s = t.runNext

/-- R190, R371, R385, R450: an instruction is refused exactly when an operand is one the spec forbids; every other
instruction completes, in every state. No instruction faults (R500). The refusals are the spec's decisions D7, D22,
D23: log entries 17 and 19. -/
def Obligations.InstructionsCompleteExactlyWhenWellFormed : Prop :=
  ∀ (i : Instr) (s : State),
    (i.wellFormed = true → ∃ t, exec i s = .next t ∧ t.pc = s.pc ∧ t.params = s.params) ∧
    (i.wellFormed = false → ∃ r, exec i s = .refused r ∧
      (r = .readOnlyRegister ∨ r = .dagStoreOperands ∨ r = .loopOffset))

/-- R432 to R434: the sixteen conditions. Rests on the spec's decisions D1, D25, D47: log entries 20 and 22. -/
def Obligations.ConditionsTestTheFlags : Prop :=
  ∀ (s : State) (c : Cond), Settled s → (s.holds c = true ↔ CondTruth s c) ∧ s.evalCond c = afterCond s c

/-! ## ALU -/

/-- R226 to R245: the sixteen ALU functions of an XOP and a YOP register (or 0), conditional. AC and AV of a
difference are the spec's decision D2, saturation's D10: log entry 20. -/
def Obligations.AluFunctionsOfXopAndYop : Prop :=
  ∀ (f : AluFn) (z : ResultReg) (y : AluYop) (x : AluXop) (c : Cond) (s : State), Settled s →
    Conditionally (Instr.aluYop f z y x c) c s (AluDone f (some z) (aluXValue s x) (aluYValue s y))

/-- R226 to R246: the sixteen ALU functions of an XOP register and a constant, conditional. AC and AV of a difference
are the spec's decision D2, saturation's D10: log entry 20. -/
def Obligations.AluFunctionsOfXopAndConstant : Prop :=
  ∀ (f : AluFn) (z : ResultReg) (k : Const) (v : Word) (x : AluXop) (c : Cond) (s : State), Settled s → IsConstant k v →
    Conditionally (Instr.aluConst f z k x c) c s (AluDone f (some z) (aluXValue s x) v)

/-- R159, R226 to R245: the sixteen ALU functions of two data registers (or 0 for y). Rests on the spec's decisions
D2, D5, D9, D10: log entries 19 and 20. -/
def Obligations.AluFunctionsOfTwoDataRegisters : Prop :=
  ∀ (f : AluFn) (z : ResultReg) (y0 : Bool) (x y : Dreg) (s : State), Settled s →
    ∃ t, exec (Instr.aluReg f z y0 x y) s = .next t ∧
      AluDone f (some z) ((bank s).get x) (if y0 then 0 else (bank s).get y) s t

/-- R235 to R238, R239, R230: TSTBIT, SETBIT, CLRBIT and TGLBIT are AND, OR, AND NOT and XOR with the one bit they
name; PASS 0, PASS 1, PASS −1, PASS Xop and −Xop are the functions of y = 0. Rests on the spec's decisions D2, D10:
log entry 20. -/
def Obligations.BitPassAndNegateInstructions : Prop :=
  ∀ (z : ResultReg) (x : AluXop) (c : Cond) (s : State), Settled s →
    let v := aluXValue s x
    (∀ (n : BitVec 4) (mask : Word), IsConstant ⟨false, n⟩ mask →
      Conditionally (.tstBit z n x c) c s (AluDone .and (some z) v mask) ∧
      Conditionally (.setBit z n x c) c s (AluDone .or (some z) v mask) ∧
      Conditionally (.clrBit z n x c) c s (AluDone .and (some z) v (~~~mask)) ∧
      Conditionally (.tglBit z n x c) c s (AluDone .xor (some z) v mask)) ∧
    Conditionally (.passZero z x c) c s (AluDone .pass (some z) v 0) ∧
    Conditionally (.passOne z x c) c s (AluDone .inc (some z) v 0) ∧
    Conditionally (.passMinusOne z x c) c s (AluDone .dec (some z) v 0) ∧
    Conditionally (.passXop z x c) c s (AluDone .add (some z) v 0) ∧
    Conditionally (.negXop z x c) c s (AluDone .rsub (some z) v 0)

/-- R249: NONE = an ALU function writes its flags and nothing else. Rests on the spec's decisions D2, D7, D10: log
entries 19 and 20. That a word with Z = 1 does what the word with Z = 0 does is the model's choice: log entry 19. -/
def Obligations.AluFlagsAlone : Prop :=
  ∀ (z : ResultReg) (f : AluFn) (y : AluYop) (x : AluXop) (s : State), Settled s →
    ∃ t, exec (.noneAlu z f y x) s = .next t ∧ AluDone f none (aluXValue s x) (aluYValue s y) s t

/-- R247, R248: a divide step shifts AF and AY0 left as one; DIVS puts the quotient's sign into AQ and the vacated
bit, DIVQ adds or subtracts the divisor by AQ first and shifts in the inverted new AQ. The quotient bit is the spec's
decision D11: log entry 20. -/
def Obligations.DivideSteps : Prop :=
  ∀ (s : State) (x : AluXop), Settled s →
    let d := aluXValue s x
    let shifted := fun (top : Word) (q low : Bool) (t : State) =>
      bank t = { bank s with
        af := BitVec.ofNat 16 (2 * top.toNat + (bank s).ay0.toNat / 32768)
        ay0 := BitVec.ofNat 16 (2 * (bank s).ay0.toNat + low.toNat) } ∧
      otherBank t = otherBank s ∧
      (∀ i, t.astat.getLsbD i = if i = 5 then q else s.astat.getLsbD i) ∧
      t = { s with data := t.data, astat := t.astat }
    (∀ y : DivYop, ∃ t, exec (.divs y x) s = .next t ∧
      let top := (match y with | .ay1 => (bank s).ay1 | .af => (bank s).af)
      let q := decide (d.toInt < 0) != decide (top.toInt < 0)
      shifted top q q t) ∧
    ∃ t, exec (.divq x) s = .next t ∧
      let top := BitVec.ofInt 16 ((bank s).af.toInt + (if s.astat.getLsbD 5 then d.toInt else -d.toInt))
      let q := decide (d.toInt < 0) != decide (top.toInt < 0)
      shifted top q (!q) t

/-! ## Multiplier -/

/-- R276 to R281: the fifteen multiplier functions of an XOP and a YOP register (or 0), conditional. The product's
extension and the wrap are the spec's derivations (R271, R273): log entry 20. -/
def Obligations.MultiplierFunctionsOfXopAndYop : Prop :=
  ∀ (op : MacOp) (fmt : MacFmt) (z : ResultReg) (y : MacYop) (x : MacXop) (c : Cond) (s : State), Settled s →
    Conditionally (Instr.macYop op fmt z y x c) c s
      (AccDone true z (macValue op fmt z (macXValue s x) (macYValue s y) s))

/-- R282: the fifteen multiplier functions squaring an XOP register, conditional. The product's extension and the wrap
are the spec's derivations (R271, R273): log entry 20. -/
def Obligations.MultiplierSquares : Prop :=
  ∀ (op : MacOp) (fmt : MacFmt) (z : ResultReg) (x : MacXop) (c : Cond) (s : State), Settled s →
    Conditionally (Instr.macSq op fmt z x c) c s
      (AccDone true z (macValue op fmt z (macXValue s x) (macXValue s x) s))

/-- R159, R276 to R281: the fifteen multiplier functions of two data registers (or 0 for y). The product's extension
and the wrap are the spec's derivations (R271, R273): log entry 20. -/
def Obligations.MultiplierFunctionsOfTwoDataRegisters : Prop :=
  ∀ (op : MacOp) (fmt : MacFmt) (z : ResultReg) (y0 : Bool) (x y : Dreg) (s : State), Settled s →
    ∃ t, exec (Instr.macReg op fmt z y0 x y) s = .next t ∧
      AccDone true z (macValue op fmt z ((bank s).get x) (if y0 then 0 else (bank s).get y) s) s t

/-- R283, R284: MR = 0 and SR = 0 clear the accumulator and its flag; MR = MR (RND) and SR = SR (RND) round it. R284's
form is the spec's derivation: log entry 20. -/
def Obligations.ClearAndRoundAccumulator : Prop :=
  ∀ (z : ResultReg) (x : MacXop) (c : Cond) (s : State), Settled s →
    Conditionally (.clearAcc z x c) c s (AccDone true z 0) ∧
    Conditionally (.roundAcc z x c) c s
      (AccDone true z (BitVec.ofNat 40 (rounded (s.icntl.getLsbD 7) ((bank s).acc z).toNat)))

/-- R287: SAT MR and SAT SR (Type 25, no condition) put the nearest 32-bit value into an accumulator that exceeds 32 bits,
leave any other alone, and change no flag. -/
def Obligations.SaturateAccumulator : Prop :=
  (decode [0b000000110000000000000000#24] = .ok (.satMr, []) ∧
    decode [0b000000110100000000000000#24] = .ok (.satSr, [])) ∧
  ∀ (s : State), Settled s → ∀ z : ResultReg,
    ∃ t, exec (if z = .result then .satMr else .satSr) s = .next t ∧
      let v := ((bank s).acc z).toInt
      bank t = (if 2 ^ 31 ≤ v then withAcc (bank s) z (BitVec.ofInt 40 (2 ^ 31 - 1))
        else if v < -2 ^ 31 then withAcc (bank s) z (BitVec.ofInt 40 (-2 ^ 31)) else bank s) ∧
      otherBank t = otherBank s ∧ t = { s with data := t.data }

/-- R144, R288, R468: NONE = a multiplier function writes its flag alone; the no-operation forms change nothing, but a
condition NOT CE of one decrements CNTR. NONE with Z = 1 is the spec's derivation; the condition of a no-operation
form is the model's: log entries 15 and 20. -/
def Obligations.MultiplierFlagsAloneAndNoOperations : Prop :=
  ∀ (s : State), Settled s →
    (∀ (z : ResultReg) (op : MacOp) (fmt : MacFmt) (y : MacYop) (x : MacXop),
      ∃ t, exec (.noneMac z (.mac op fmt y x)) s = .next t ∧
        AccDone false z (macValue op fmt z (macXValue s x) (macYValue s y) s) s t) ∧
    (∀ z yx, exec (.noneMac z (.nop yx)) s = .next s) ∧
    (∀ z y0 x y, exec (.regNop z y0 x y) s = .next s) ∧
    (∀ zyx c, exec (.condNop zyx c) s = .next (afterCond s c)) ∧
    (∀ n, exec (.nop n) s = .next s)

/-! ## Shifter -/

/-- R305, R307, R309: the twelve conditional shifts by SE and normalisations into SR. SV and NORM (HI) of a positive
SE are the spec's decisions D13, D14: log entry 20. -/
def Obligations.ShiftsBySe : Prop :=
  ∀ (f : ShiftFn) (x : Dreg) (c : Cond) (s : State) (v : BitVec 40), Settled s →
    shiftResult f ((bank s).get x) s = some v →
    Conditionally (Instr.condShift f x c) c s (AccDone true .feedback v)

/-- R306, R308: the eight immediate shifts into SR. SV is the spec's decision D13: log entry 20. -/
def Obligations.ShiftsByAnImmediate : Prop :=
  ∀ (x : Dreg) (e : BitVec 8) (s : State), Settled s →
    let v := (bank s).get x
    let done := fun (i : Instr) (orIn arith hi : Bool) =>
      ∃ t, exec i s = .next t ∧ AccDone true .feedback (srWith orIn s (shiftOut arith hi v e.toInt)) s t
    done (.lshiftHiImm x e) false false true ∧ done (.lshiftHiOrImm x e) true false true ∧
    done (.lshiftLoImm x e) false false false ∧ done (.lshiftLoOrImm x e) true false false ∧
    done (.ashiftHiImm x e) false true true ∧ done (.ashiftHiOrImm x e) true true true ∧
    done (.ashiftLoImm x e) false true false ∧ done (.ashiftLoOrImm x e) true true false

/-- R311, R312: EXP (HI), (HIX) and (LO) derive the exponent of a word, of a word that has overflowed, and of the
lower word of a double-word value; EXPADJ keeps the greatest exponent in SB. EXP (LO) is the spec's decision D15: log
entry 20. -/
def Obligations.ExponentInstructions : Prop :=
  ∀ (x : Dreg) (c : Cond) (s : State) (e : Int) (n : Nat), Settled s →
    let v := (bank s).get x
    let neg := decide (v.toInt < 0)
    IsExponent v e → LeadingBits v (s.astat.getLsbD 7) n →
    Conditionally (.expHi x c) c s (ExpDone (BitVec.ofInt 16 e) neg) ∧
    Conditionally (.expHix x c) c s (if s.astat.getLsbD 2 then ExpDone 1 (!neg) else ExpDone (BitVec.ofInt 16 e) neg) ∧
    Conditionally (.expLo x c) c s (if seValue s = -15 then ExpDone (BitVec.ofInt 16 (-15 - n)) (s.astat.getLsbD 7)
      else fun a t => t = a) ∧
    Conditionally (.expAdj x c) c s fun a t =>
      bank t = (if e > ((bank s).sb.extractLsb' 0 5).toInt then { bank s with sb := BitVec.ofInt 16 e } else bank s) ∧
      otherBank t = otherBank s ∧ t = { a with data := t.data }

/-! ## Multifunction -/

/-- R341, R342, R343, R382: a compute with a dual read is the compute alone and the two reads alone, all from the
state before it, with both index registers updated; without a compute, the two reads. Rests on the spec's decisions
D6, D24: log entries 19 and 21. -/
def Obligations.ComputeWithDualRead : Prop :=
  ∀ (f : Compute) (pd : PmDest) (dd : DmDest) (pmi pmm dmi dmm : Slot) (s : State), Settled s →
    ∃ u v w t, exec (computeAlone .result f) s = .next u ∧
      exec (.dmReadPost .dag1 (.g0 (DmDest.dreg dd)) dmi dmm) s = .next v ∧
      exec (.pmReadPost .dag2 (.g0 (PmDest.dreg pd)) pmi pmm) s = .next w ∧
      exec (.dualCompute f pd dd pmi pmm dmi dmm) s = .next t ∧
      (bank t).get (DmDest.dreg dd) = (bank v).get (DmDest.dreg dd) ∧
      (bank t).get (PmDest.dreg pd) = (bank w).get (PmDest.dreg pd) ∧
      (∀ r, r ≠ DmDest.dreg dd → r ≠ PmDest.dreg pd → (bank t).get r = (bank u).get r) ∧
      (bank t).af = (bank u).af ∧ (bank t).se = (bank s).se ∧ (bank t).sb = (bank s).sb ∧
      otherBank t = otherBank s ∧ t.astat = u.astat ∧ t.px = w.px ∧
      dagOf t .dag1 = dagOf v .dag1 ∧ dagOf t .dag2 = dagOf w .dag2 ∧
      t.dags.get (!s.mstat.getLsbD 6) = s.dags.get (!s.mstat.getLsbD 6) ∧
      t = { s with data := t.data, dags := t.dags, astat := t.astat, px := t.px } ∧
      ∀ b, exec (.dualRead b pd dd pmi pmm dmi dmm) s
        = exec (.dualCompute (.mac (.nop b)) pd dd pmi pmm dmi dmm) s

/-- R341, R344: an ALU or multiplier function with a memory read is the function alone and the read alone, both from
the state before it. A register written twice has a free value: log entry 10. -/
def Obligations.ComputeWithMemoryRead : Prop :=
  ∀ (g : Dag) (z : ResultReg) (f : Compute) (d : Dreg) (i m : Slot) (s : State), Settled s →
    ∃ u w t, exec (computeAlone z f) s = .next u ∧ exec (.dmReadPost g (.g0 d) i m) s = .next w ∧
      exec (.computeRead g z f d i m) s = .next t ∧ Merged (Compute.dests z f) (Dreg.loadDests d) s u w t ∧
      t.dags = w.dags ∧ t = { s with data := t.data, dags := t.dags, astat := t.astat }

/-- R341, R345: an ALU or multiplier function with a memory write is the function alone and the store alone, both from
the state before it: the old register is stored. (SR2 beside a function that writes SR is stored with a value the spec
leaves open, V4: then only the place of the store is said.) The stored SR2 is a free value there: log entry 10. -/
def Obligations.ComputeWithMemoryWrite : Prop :=
  ∀ (g : Dag) (z : ResultReg) (f : Compute) (d : Dreg) (i m : Slot) (s : State), Settled s →
    ∃ u w t, exec (computeAlone z f) s = .next u ∧ exec (.dmWritePost g (.g0 d) i m) s = .next w ∧
      exec (.computeWrite g z f d i m) s = .next t ∧
      t.data = u.data ∧ t.astat = u.astat ∧ t.dags = w.dags ∧
      (¬(d = .sr2 ∧ .sr2 ∈ Compute.dests z f) → t.mem = w.mem ∧ t.stale = w.stale) ∧
      OnlyAt (busAddress s g (idx s g i)) s t ∧
      t = { s with data := t.data, dags := t.dags, astat := t.astat, mem := t.mem, stale := t.stale }

/-- R341, R348, R350, R249: an ALU or multiplier function with a register move is the function alone and the move
alone, both from the state before it; with `AR = AR` beside it it is the `NONE =` form, which writes the flags of the
unsaturated output alone; an SR2 moved beside a function that writes SR brings any value (V4), and all else is as
without it. Rests on the spec's derivations of R249 and R348; free values: log entry 10; the `NONE =` form of an ALU
function with Z = 1 is the model's choice: log entry 19. -/
def Obligations.ComputeWithRegisterMove : Prop :=
  ∀ (z : ResultReg) (f : Compute) (d src : Dreg) (s : State), Settled s →
    ∃ u n w t, exec (computeAlone z f) s = .next u ∧ exec (flagsAlone z f) s = .next n ∧
      exec (.moveReg (.g0 d) (.g0 src)) s = .next w ∧
      exec (.computeMove z f d src) s = .next t ∧ t = { s with data := t.data, astat := t.astat } ∧
      if d = .ar ∧ src = .ar then t = n ∧ t.data = s.data
      else if src = .sr2 ∧ .sr2 ∈ Compute.dests z f then t.astat = u.astat ∧ otherBank t = otherBank s ∧
        (∀ r, r ∉ Dreg.loadDests d → (bank t).get r = (bank u).get r) ∧
        (bank t).af = (bank u).af ∧ (bank t).se = (bank u).se ∧ (bank t).sb = (bank u).sb
      else Merged (Compute.dests z f) (Dreg.loadDests d) s u w t

/-- R341, R346, R347, R349: a shift with a memory read, a memory write or a register move is the shift alone and the
move alone, both from the state before it; an SR2 stored or moved beside a shift that writes SR brings any value (V4),
and all else is as without it. Rests on the spec's derivations of R346 and R347; free values: log entry 10. -/
def Obligations.ShiftWithMove : Prop :=
  ∀ (g : Dag) (f : ShiftFn) (x : ShiftXop) (xr d src : Dreg) (i m : Slot) (s : State), Settled s →
    (∃ u w t, exec (Instr.condShift f (ShiftXop.dreg x) .always) s = .next u ∧
      exec (.dmReadPost g (.g0 d) i m) s = .next w ∧ exec (.shiftRead g f x d i m) s = .next t ∧
      Merged (ShiftFn.dests f) (Dreg.loadDests d) s u w t ∧ t.dags = w.dags ∧
      t = { s with data := t.data, dags := t.dags, astat := t.astat }) ∧
    (∃ u w t, exec (Instr.condShift f (ShiftXop.dreg x) .always) s = .next u ∧
      exec (.dmWritePost g (.g0 d) i m) s = .next w ∧ exec (.shiftWrite g f x d i m) s = .next t ∧
      t.data = u.data ∧ t.astat = u.astat ∧ t.dags = w.dags ∧
      (¬(d = .sr2 ∧ .sr2 ∈ ShiftFn.dests f) → t.mem = w.mem ∧ t.stale = w.stale) ∧
      OnlyAt (busAddress s g (idx s g i)) s t ∧
      t = { s with data := t.data, dags := t.dags, astat := t.astat, mem := t.mem, stale := t.stale }) ∧
    ∃ u w t, exec (Instr.condShift f xr .always) s = .next u ∧ exec (.moveReg (.g0 d) (.g0 src)) s = .next w ∧
      exec (.shiftMove f xr d src) s = .next t ∧ t = { s with data := t.data, astat := t.astat } ∧
      if src = .sr2 ∧ .sr2 ∈ ShiftFn.dests f then t.astat = u.astat ∧ otherBank t = otherBank s ∧
        (∀ r, r ∉ Dreg.loadDests d → (bank t).get r = (bank u).get r) ∧
        (bank t).af = (bank u).af ∧ (bank t).se = (bank u).se ∧ (bank t).sb = (bank u).sb
      else Merged (ShiftFn.dests f) (Dreg.loadDests d) s u w t

/-! ## Moves, loads and stores -/

/-- R370, R371, R372, R377: a register move writes its destination with the source, sign-extended if narrow, and
nothing else; the immediate loads of the DAG, status and control registers do with their immediate, the 12-bit one
zero-filled; SSTAT is no destination (U8). The refusal of SSTAT is the spec's decision D22, the latch of interrupt 3
is free, the windows are the spec's decision D37: log entries 5, 11 and 19. -/
def Obligations.RegisterMoves : Prop :=
  ∀ s : State, Settled s →
    (∀ (d src : Reg) (v : Word),
      (match src with
        | .g3 .astat => v = BitVec.ofInt 16 s.astat.toInt
        | .g3 .mstat => v = BitVec.ofInt 16 s.mstat.toInt
        | .g3 .sstat => v = BitVec.ofInt 16 s.sstat.toInt
        | .g3 .ccode => v = BitVec.ofInt 16 s.ccode.toInt
        | .g3 .px => v = BitVec.ofInt 16 s.px.toInt
        | .g3 .dmpg1 => v = BitVec.ofInt 16 s.dmpg1.toInt
        | .g3 .dmpg2 => v = BitVec.ofInt 16 s.dmpg2.toInt
        | .g3 .iopg => v = BitVec.ofInt 16 s.iopg.toInt
        | .g3 .ijpg => v = BitVec.ofInt 16 s.ijpg.toInt
        | .g3 .stackp => v = BitVec.ofInt 16 s.stackp.toInt
        | r => v = content s s r) →
      if d = .g3 .sstat then exec (.moveReg d src) s = .refused .readOnlyRegister
      else ∃ t, exec (.moveReg d src) s = .next t ∧ Moved d v s t) ∧
    (∀ k r, ∃ t, exec (.loadReg1Imm k r) s = .next t ∧ Moved (.g1 r) k s t) ∧
    (∀ k r, ∃ t, exec (.loadReg2Imm k r) s = .next t ∧ Moved (.g2 r) k s t) ∧
    ∀ (k : BitVec 12) r, if r = .sstat then exec (.loadReg3Imm k r) s = .refused .readOnlyRegister
      else ∃ t, exec (.loadReg3Imm k r) s = .next t ∧ Moved (.g3 r) (BitVec.ofNat 16 k.toNat) s t

/-- R376: `Dreg = Data16`, with its word (Type 6), writes its data register, MR2 and SR2 along with MR1 and SR1, and nothing
else; of a value loaded into MR2 or SR2 the accumulator uses bits 7:0. -/
def Obligations.ImmediateLoads : Prop :=
  ∀ (v : Word) (d : Dreg),
    encode (.loadDregImm v d) = [0b0100#4 ++ v ++ d.code] ∧ decode [0b0100#4 ++ v ++ d.code] = .ok (.loadDregImm v d, []) ∧
    ∀ s : State, Settled s → ∃ t, exec (.loadDregImm v d) s = .next t ∧ Moved (.g0 d) v s t ∧
      ∀ z : ResultReg, (d = if z = .result then .mr2 else .sr2) → ((bank t).acc z).extractLsb' 32 8 = v.extractLsb' 0 8

/-- R107: what a read of one location delivers: of a 16-bit location its 16 bits, of a 24-bit location bits 23:8 (DM
bus) or all 24 (PM bus), and over the PM bus PX_FILL below a 16-bit word. Which locations have which width is data of
the state: log entry 2. -/
def Obligations.ReadsDeliverTheLocation : Prop :=
  ∀ (s : State) (a : Addr),
    (s.params.width a = some .w16 → s.read16 a = (s.mem.readLoc a).extractLsb' 0 16 ∧
      s.read24 a = (s.mem.readLoc a).extractLsb' 0 16 ++ s.params.pxFill a) ∧
    (s.params.width a = some .w24 → s.read16 a = (s.mem.readLoc a).extractLsb' 8 16 ∧ s.read24 a = s.mem.readLoc a)

/-- R374, R379, R381, R386, R387: the loads from data memory write their register with the location's word, after the
index register's update; a load of that index register itself wins; SSTAT is no destination. Rests on the spec's
decisions D20, D21, D22, D24: log entries 19 and 21. -/
def Obligations.DataMemoryLoads : Prop :=
  ∀ (s : State) (g : Dag) (i m : Slot) (n : BitVec 8), Settled s →
    let imm := BitVec.ofInt 16 n.toInt
    (∀ a d, ∃ t, exec (.loadDregDirect a d) s = .next t ∧ Moved (.g0 d) (s.read16 (s.dmpg1 ++ a)) s t) ∧
    (∀ a r, ∃ t, exec (.loadDagDirect a r) s = .next t ∧ Moved (imReg r) (s.read16 (s.dmpg1 ++ a)) s t) ∧
    (∀ r, if r = .g3 .sstat then exec (.dmReadPost g r i m) s = .refused .readOnlyRegister
      else ∃ t, exec (.dmReadPost g r i m) s = .next t ∧ Moved r (s.read16 (busAddress s g (idx s g i)))
        (withIndex s g i (nextIndex s g i (mdf s g m))) t) ∧
    (∀ r, if r = .g3 .sstat then exec (.dmReadPre g r i m) s = .refused .readOnlyRegister
      else ∃ t, exec (.dmReadPre g r i m) s = .next t ∧
        Moved r (s.read16 (busAddress s g (idx s g i + mdf s g m))) s t) ∧
    (∀ d, ∃ t, exec (.immReadPost g d n i) s = .next t ∧ Moved (.g0 d) (s.read16 (busAddress s g (idx s g i)))
        (withIndex s g i (nextIndex s g i imm)) t) ∧
    (∀ d, ∃ t, exec (.immReadPre g d n i) s = .next t ∧ Moved (.g0 d) (s.read16 (busAddress s g (idx s g i + imm))) s t)

/-- R382, R384: a load over the PM bus brings bits 23:8 into the register and bits 7:0 into PX; a load of PX itself
keeps bits 15:8. Rests on the spec's decisions D20, D21, D22, D24: log entries 19 and 21. -/
def Obligations.ProgramMemoryLoads : Prop :=
  ∀ (s : State) (g : Dag) (r : Reg) (i m : Slot), Settled s →
    let post := s.read24 (busAddress s g (idx s g i))
    let pre := s.read24 (busAddress s g (idx s g i + mdf s g m))
    (if r = .g3 .sstat then exec (.pmReadPost g r i m) s = .refused .readOnlyRegister
      else ∃ t, exec (.pmReadPost g r i m) s = .next t ∧ Moved r (post.extractLsb' 8 16)
        ({ withIndex s g i (nextIndex s g i (mdf s g m)) with px := post.extractLsb' 0 8 }) t) ∧
    (if r = .g3 .sstat then exec (.pmReadPre g r i m) s = .refused .readOnlyRegister
      else ∃ t, exec (.pmReadPre g r i m) s = .next t ∧ Moved r (pre.extractLsb' 8 16)
        ({ s with px := pre.extractLsb' 0 8 }) t)

/-- R370, R374, R380, R381, R386, R387, R388: the stores to data memory write their one location with the register,
zero-filled if narrow, or the immediate, update the index register where they postmodify, and change nothing else.
Rests on the spec's decisions D20, D21: log entry 21; the list `stale` is the model's: log entry 6. -/
def Obligations.DataMemoryStores : Prop :=
  ∀ (s : State) (g : Dag) (i m : Slot) (n : BitVec 8), Settled s → s.mem.wf = true →
    let imm := BitVec.ofInt 16 n.toInt
    let here := busAddress s g (idx s g i)
    let done := fun (op : Instr) (a : Addr) (v : Word) (s' : State) =>
      ∃ t, exec op s = .next t ∧ StoredDm a v s' t ∧ MemoryOnly s' t
    (∀ a d, done (.storeDregDirect a d) (s.dmpg1 ++ a) ((bank s).get d) s) ∧
    (∀ a r, done (.storeDagDirect a r) (s.dmpg1 ++ a) (content s s (imReg r)) s) ∧
    (∀ r, r ≠ .g3 .sstat →
      done (.dmWritePost g r i m) here (content s s r) (withIndex s g i (nextIndex s g i (mdf s g m))) ∧
      done (.dmWritePre g r i m) (busAddress s g (idx s g i + mdf s g m)) (content s s r) s) ∧
    done (.dmWritePost g (.g3 .sstat) i m) here (s.sstat.setWidth 16) (withIndex s g i (nextIndex s g i (mdf s g m))) ∧
    done (.dmWritePre g (.g3 .sstat) i m) (busAddress s g (idx s g i + mdf s g m)) (s.sstat.setWidth 16) s ∧
    (∀ d, done (.immWritePost g d n i) here ((bank s).get d) (withIndex s g i (nextIndex s g i imm)) ∧
      done (.immWritePre g d n i) (busAddress s g (idx s g i + imm)) ((bank s).get d) s) ∧
    (∀ v, done (.storeImm16 g i m v) here v (withIndex s g i (nextIndex s g i (mdf s g m))))

/-- R383, R384, R389: the stores over the PM bus write their one location with the register above PX, or the 24-bit
immediate, and change nothing else but a postmodified index register. Rests on the spec's decisions D20, D21: log
entry 21; the list `stale` is the model's: log entry 6. -/
def Obligations.ProgramMemoryStores : Prop :=
  ∀ (s : State) (g : Dag) (i m : Slot), Settled s → s.mem.wf = true →
    let here := busAddress s g (idx s g i)
    let after := withIndex s g i (nextIndex s g i (mdf s g m))
    let done := fun (op : Instr) (a : Addr) (v : Code) (s' : State) =>
      ∃ t, exec op s = .next t ∧ StoredPm a v s' t ∧ MemoryOnly s' t
    (∀ r, done (.pmWritePost g r i m) here (content s s r ++ s.px) after ∧
      done (.pmWritePre g r i m) (busAddress s g (idx s g i + mdf s g m)) (content s s r ++ s.px) s) ∧
    (∀ v, done (.storeImm24 g i m v) here v after)

/-- R385: Type 32a stores a register X of the same DAG and loads it with the unmodified index (postmodify) or the sum
(premodify); a register of the other DAG, or the index register itself, is refused. Rests on the spec's decisions D20,
D21, D23: log entries 19 and 21. -/
def Obligations.DagRegisterStores : Prop :=
  ∀ (s : State) (g grp : Dag) (k : DagKind) (j i m : Slot), Settled s → s.mem.wf = true →
    let x := kindReg grp k j
    let sum := idx s g i + mdf s g m
    if grp = g ∧ ¬(k = .i ∧ j = i) then
      (∃ u t, exec (.dmWritePost g x i m) s = .next u ∧ exec (.dagStorePost g grp k j i m) s = .next t ∧
        t.mem = u.mem ∧ t.stale = u.stale ∧ Moved x (idx s g i) u t) ∧
      (∃ u t, exec (.dmWritePre g x i m) s = .next u ∧ exec (.dagStorePre g grp k j i m) s = .next t ∧
        t.mem = u.mem ∧ t.stale = u.stale ∧ Moved x sum u t)
    else exec (.dagStorePost g grp k j i m) s = .refused .dagStoreOperands ∧
      exec (.dagStorePre g grp k j i m) s = .refused .dagStoreOperands

/-- R392, R393, R395: MODIFY changes the index register alone, wrapped once into a circular buffer. The wrap is the
spec's decision D20: log entry 21. -/
def Obligations.ModifyInstructions : Prop :=
  ∀ (s : State) (g : Dag) (i m : Slot) (n : BitVec 8), Settled s →
    exec (.modify g i m) s = .next (withIndex s g i (nextIndex s g i (mdf s g m))) ∧
    exec (.modifyImm g n i) s = .next (withIndex s g i (nextIndex s g i (BitVec.ofInt 16 n.toInt)))

/-- R395: in a circular buffer that does not cross the end of a page, an index inside it, modified by no more than its
length, stays inside it and moves by the modifier modulo the length. The wrap is the spec's decision D20: log entry
21. -/
def Obligations.CircularBuffersKeepTheirIndex : Prop :=
  ∀ (s t : State) (g : Dag) (i m : Slot), Settled s →
    let b : Int := (bas s g i).toNat
    let l : Int := (len s g i).toNat
    0 < l → b + l ≤ 65536 → b ≤ (idx s g i).toNat → (idx s g i).toNat < b + l →
    -l ≤ (mdf s g m).toInt → (mdf s g m).toInt ≤ l →
    exec (.modify g i m) s = .next t →
      b ≤ (idx t g i).toNat ∧ (idx t g i).toNat < b + l ∧
      l ∣ ((idx t g i).toNat : Int) - ((idx s g i).toNat + (mdf s g m).toInt)

/-- R107, R382, R383: a register and PX stored to a 24-bit location over the PM bus come back by a load over the PM
bus; a DM load of it brings the register alone. R102, R123, R465: an instruction fetch sees the stored word or an
earlier one of the location (a store adds no other word and takes none away), and, when six further instructions have
followed a FLUSH CACHE, the location's word alone; there is no fetch from another location. Which locations have which
width is data of the state: log entry 2; the free choice of the fetched word is the spec's decision D19: log entry 6.
-/
def Obligations.StoredWordsComeBack : Prop :=
  (∀ (s t : State) (g : Dag) (r : Reg) (i m : Slot), Settled s → s.mem.wf = true →
      s.params.width (busAddress s g (idx s g i)) = some .w24 →
      exec (.pmWritePost g r i m) s = .next t →
      t.read24 (busAddress s g (idx s g i)) = content s s r ++ s.px ∧
      t.read16 (busAddress s g (idx s g i)) = content s s r ∧
      ∀ b, b ≠ busAddress s g (idx s g i) → t.read24 b = s.read24 b ∧ t.read16 b = s.read16 b) ∧
  (∀ (s : State) (a : Addr),
    if s.params.width a = some .w24 then ∃ x, s.fetchWord a = some x ∧ MaySee s a x else s.fetchWord a = none) ∧
  (∀ (s t : State) (g : Dag) (r : Reg) (i m : Slot) (v : Code), Settled s → s.mem.wf = true →
    exec (.pmWritePost g r i m) s = .next t ∨ exec (.dmWritePost g r i m) s = .next t ∨
      exec (.storeImm24 g i m v) s = .next t →
    ∀ b x, s.params.width b = some .w24 → (MaySee t b x ↔ x = t.mem.readLoc b ∨ MaySee s b x)) ∧
  ∀ (s t : State), exec .flushCache s = .next t → ∀ k a, s.params.width a = some .w24 →
    (∀ x, MaySee (aged k t) a x → MaySee s a x) ∧ (7 ≤ k → (aged k t).fetchWord a = some (s.mem.readLoc a))

/-- R111, R390: an I/O read loads its register with some value and changes nothing else; an I/O write sends the
register out at the address IOPG and the instruction give. What a read answers is free, and the list of writes is the
model's: log entry 12. -/
def Obligations.InputOutputSpace : Prop :=
  ∀ (s : State) (a : BitVec 10) (d : Dreg), Settled s →
    (∃ v t, exec (.ioRead a d) s = .next t ∧ Moved (.g0 d) v s t) ∧
    exec (.ioWrite a d) s = .next { s with outputs := .io (s.iopg ++ a) ((bank s).get d) :: s.outputs }

/-- R113, R391: system control locations 0 to 7 are the base registers B0 to B7 of the selected bank; a read of
another location brings some value, a write to it goes out. The addresses of B1 to B7 are the spec's decision D17; the
rest is free: log entries 12 and 21. -/
def Obligations.SystemControlSpace : Prop :=
  ∀ (s : State) (a : BitVec 8) (d : Dreg), Settled s →
    let g : Dag := if a.toNat < 4 then .dag1 else .dag2
    let n : Slot := if a.toNat % 4 = 0 then .s0 else if a.toNat % 4 = 1 then .s1 else if a.toNat % 4 = 2 then .s2 else .s3
    (∃ v t, exec (.sysRead a d) s = .next t ∧ Moved (.g0 d) v s t ∧ (a.toNat < 8 → v = bas s g n)) ∧
    exec (.sysWrite a d) s = .next (if a.toNat < 8 then
      { s with dags := s.dags.set (s.mstat.getLsbD 6) ((s.dags.get (s.mstat.getLsbD 6)).set g
          { dagOf s g with b := (dagOf s g).b.set n ((bank s).get d) }) }
      else { s with outputs := .sys a ((bank s).get d) :: s.outputs })

/-! ## Program flow -/

/-- R452, R454, R456, R458: the jumps, with their words, branch to PC + offset, to the address in their second word,
or to IJPG:index. Targets modulo 2^24 are the spec's decision D42, the decrement by NOT CE D25, blank bits 0 D7, and
the places of the fields of Types 19 and 36 are the spec's inference (N33, N35): log entries 19, 20 and 22; `redirect`
is the model's: log entry 16. -/
def Obligations.JumpInstructions : Prop :=
  (∀ db off (c : Cond), encode (.jumpRel13 db off c) = [0b000110#6 ++ BitVec.ofBool db ++ off ++ c.code]) ∧
  (∀ db (off : Word), encode (.jumpRel16 db off)
    = [0b000111#6 ++ off.extractLsb' 0 14 ++ BitVec.ofBool db ++ 0#1 ++ off.extractLsb' 14 2]) ∧
  (∀ (a : Addr) (c : Cond), encode (.longJump a c)
    = [0b00000101#8 ++ 0b0000#4 ++ a.extractLsb' 16 8 ++ c.code, 0#4 ++ a.extractLsb' 0 16 ++ 0#4]) ∧
  (∀ db (g : Dag) (c : Cond) (i : Slot), encode (.jumpInd db g c i)
    = [0b00001011#8 ++ BitVec.ofBool db ++ 0#1 ++ g.code ++ 0b00000#5 ++ c.code ++ i.code ++ 0b00#2]) ∧
  ∀ (s : State) (db : Bool) (c : Cond), Settled s →
    (∀ off, Conditionally (.jumpRel13 db off c) c s fun u t => t = Branched (s.pc + BitVec.ofInt 24 off.toInt) db u) ∧
    (∀ off, exec (.jumpRel16 db off) s = .next (Branched (s.pc + BitVec.ofInt 24 off.toInt) db s)) ∧
    (∀ a, Conditionally (.longJump a c) c s fun u t => t = Branched a false u) ∧
    (∀ g i, Conditionally (.jumpInd db g c i) c s fun u t => t = Branched (s.ijpg ++ idx s g i) db u)

/-- R453, R455, R457: the calls push the address after the instruction (after its slots if delayed, after both words
of LCALL) and branch. Overflow's data effect and the time of the push are the spec's decisions D28, D29, D32: log
entry 22; the SSTAT window D37: log entry 7; `redirect` is the model's: log entry 16. -/
def Obligations.CallInstructions : Prop :=
  ∀ (s : State) (db : Bool) (c : Cond), Settled s →
    let ret := s.pc + if db then 3 else 1
    (∀ off, exec (.callRel16 db off) s
      = .next (ReadBack s 0xFF (Branched (s.pc + BitVec.ofInt 24 off.toInt) db (pushedPc ret s)))) ∧
    (∀ a, Conditionally (.longCall a c) c s fun u t => t = ReadBack s 0xFF (Branched a false (pushedPc (s.pc + 2) u))) ∧
    (∀ g i, Conditionally (.callInd db g c i) c s fun u t =>
      t = ReadBack s 0xFF (Branched (s.ijpg ++ idx s g i) db (pushedPc ret u)))

/-- R460: RTS pops the PC stack and branches to the popped address; with the stack empty it underflows and branches
somewhere. The time of the pop and the value popped from an empty stack are the spec's decisions D28, D29, D32: log
entries 4 and 22; the SSTAT window D37: log entry 7; `redirect` is the model's: log entry 16. -/
def Obligations.ReturnFromSubroutine : Prop :=
  ∀ (s : State) (db : Bool) (c : Cond), Settled s →
    Conditionally (.rts db c) c s fun u t => ∃ a, (∀ b rest, s.pcStack = b :: rest → a = b) ∧
      t = ReadBack s 0xFF (Branched a db (poppedPc u))

/-- R459, R506: RTI pops the PC and status stacks, restores ASTAT and MSTAT, leaves the innermost interrupt level and
branches to the popped address; an empty stack underflows and gives any value; `(SS)` has no effect. Rests on the
spec's decisions D26, D28, D32, D39, D44: log entries 4 and 22; the windows D37: log entries 5 and 7; `redirect` is
the model's: log entry 16. -/
def Obligations.ReturnFromInterrupt : Prop :=
  ∀ (s : State) (db ss : Bool) (c : Cond), Settled s →
    Conditionally (.rti db ss c) c s fun u t => ∃ a f, (∀ b rest, s.pcStack = b :: rest → a = b) ∧
      (∀ e rest, s.statusStack = e :: rest → f = e) ∧
      (∀ k, t.inService.getLsbD k = (s.inService.getLsbD k && decide (∃ j, j < k ∧ s.inService.getLsbD j = true))) ∧
      t = ReadBack s 0xFF { Branched a db (restored f (poppedSts (poppedPc u))) with inService := t.inService }

/-- R450: DO UNTIL pushes one loop entry: the next address, the end address, the terminator and CNTR; an offset of 0
is refused (U12). Overflow's data effect is the spec's decisions D28, D29; the refusal is R450's: log entries 17 and
22; the SSTAT window D37: log entry 7. -/
def Obligations.LoopInstructions : Prop :=
  ∀ (s : State) (off : BitVec 12), Settled s →
    if off = 0 then exec (.doUntilCe off) s = .refused .loopOffset ∧ exec (.doForever off) s = .refused .loopOffset
    else
      let entry := fun forever : Bool => (⟨s.pc + 1, s.pc + BitVec.ofNat 24 off.toNat, forever, s.cntr⟩ : LoopEntry)
      exec (.doUntilCe off) s = .next (ReadBack s 0xFF (pushedLoop (entry false) s)) ∧
      exec (.doForever off) s = .next (ReadBack s 0xFF (pushedLoop (entry true) s))

/-- R461: the pushes, alone or two in one word. Rests on the spec's decisions D4, D28, D29, D45: log entries 19, 21
and 22; the SSTAT window D37: log entry 7. -/
def Obligations.StackPushes : Prop :=
  ∀ (s : State), Settled s →
    let v := s.stackp ++ s.stacka
    let entry : LoopEntry := ⟨v, s.lpstackp.page ++ s.lpstacka, s.lpstackp.forever, s.cntr⟩
    exec .pushPc s = .next (ReadBack s 0xFF (pushedPc v s)) ∧
    exec .pushLoop s = .next (ReadBack s 0x80 (pushedLoop entry s)) ∧
    exec .pushSts s = .next (ReadBack s 0x80 (pushedSts s)) ∧
    ∀ pc lp sts, pc ≠ .pop → lp ≠ .pop → sts ≠ .pop → acts pc || acts lp || acts sts →
      let t1 := if pc = .push then pushedPc v s else s
      let t2 := if lp = .push then pushedLoop entry t1 else t1
      exec (.stackControl false pc lp sts) s
        = .next (ReadBack s (stackFree pc lp sts) (if sts = .push then pushedSts t2 else t2))

/-- R461 to R465, R444: the pops, alone, two in one word, or in any word of Type 26: the pushes first, then the pops, of which
a PC pop leaves its value in STACKA and STACKP; FLUSH CACHE alone or beside them; a pop of an empty stack brings any value
(and underflows, but for the loop stacks). Rests on the spec's decisions D4, D28, D29, D45: log entries 19, 21 and 22; that
POP LOOP opens the window of CNTR is the model's reading of R435: log entry 5; the list `stale` is the model's: log entry 6.
-/
def Obligations.StackPops : Prop :=
  ∀ s : State, Settled s → ∃ (a : Addr) (e : LoopEntry) (f : StatusEntry),
    (∀ b rest, s.pcStack = b :: rest → a = b) ∧ (∀ b rest, s.loopStack = b :: rest → e = b) ∧
    (∀ b rest, s.statusStack = b :: rest → f = b) ∧
    let viaPc := fun u : State => { poppedPc u with stacka := a.extractLsb' 0 16, stackp := a.extractLsb' 16 8 }
    let viaLoop := fun u : State => { u with
      loopStack := u.loopStack.tail, stacka := e.first.extractLsb' 0 16, stackp := e.first.extractLsb' 16 8
      lpstacka := e.last.extractLsb' 0 16, lpstackp := ⟨e.forever, e.last.extractLsb' 16 8⟩, cntr := e.count
      windows := { u.windows with cntr := ⟨[u.cntr], 2⟩ } }
    let viaSts := fun u : State => restored f (poppedSts u)
    let flushed := fun u : State => { u with stale := u.stale.map fun w => ⟨w.addr, w.old, some (min 7 (w.due.getD 7))⟩ }
    exec .popPc s = .next (ReadBack s 0xFF (viaPc s)) ∧
    exec .popLoop s = .next (ReadBack s 0x80 (viaLoop s)) ∧
    exec .popSts s = .next (ReadBack s 0x80 (viaSts s)) ∧
    exec .flushCache s = .next (flushed s) ∧
    ∀ flush pc lp sts,
      let v := s.stackp ++ s.stacka
      let t1 := if pc = .push then pushedPc v s else s
      let t2 := if lp = .push then
        pushedLoop ⟨v, s.lpstackp.page ++ s.lpstacka, s.lpstackp.forever, s.cntr⟩ t1 else t1
      let t3 := if sts = .push then pushedSts t2 else t2
      let t4 := if lp = .pop then viaLoop t3 else t3
      let t5 := if pc = .pop then viaPc t4 else t4
      let t6 := if sts = .pop then viaSts t5 else t5
      let t7 := if flush then flushed t6 else t6
      exec (.stackControl flush pc lp sts) s
        = .next (if acts pc || acts lp || acts sts then ReadBack s (stackFree pc lp sts) t7 else t7)

/-- R504, R466, R467: SETINT and CLRINT write one bit of IRPTL whatever GIE is; a request from outside is latched when
it is the emulator's or GIE is 1, and lost otherwise. That GIE gates only requests from outside is the spec's decision
D38: log entry 8. -/
def Obligations.InterruptRequestsAreLatched : Prop :=
  ∀ (s : State) (n : BitVec 4) (e : HostInput) (rest : List HostInput),
    (∃ t, exec (.setInt n) s = .next t ∧ t = { s with irptl := t.irptl } ∧
      ∀ k, t.irptl.getLsbD k = (decide (k = n.toNat) || s.irptl.getLsbD k)) ∧
    (∃ t, exec (.clrInt n) s = .next t ∧ t = { s with irptl := t.irptl } ∧
      ∀ k, t.irptl.getLsbD k = (!decide (k = n.toNat) && s.irptl.getLsbD k)) ∧
    (s.inputs = e :: rest → e.reset = false →
      s.takeEvent = { s with inputs := rest, pf := e.pf, irptl := s.takeEvent.irptl } ∧
      ∀ k, s.takeEvent.irptl.getLsbD k
        = (s.irptl.getLsbD k || (e.irq.getLsbD k && (decide (k = 0) || s.icntl.getLsbD 5))))

/-- R469: IDLE makes the core wait: nothing is executed until an interrupt can be taken. What ends IDLE is the spec's
decision D27: log entries 22 and 25. -/
def Obligations.IdleWaits : Prop :=
  ∀ (s : State) (v : BitVec 4),
    exec (.idle v) s = .next { s with idle := true } ∧
    (s.inputs = [] → s.idle = true → s.interruptNow = none → ∃ t, step s = .next t ∧ t = { s with tick := t.tick }) ∧
    (∀ n, s.inputs = [] → s.interruptNow = some n → ∃ t, step s = .next t ∧ t.idle = false)

/-- R470: ENA and DIS (Type 18, a field of two bits per mode) write the mode bits they name, at once, and no other
bit. That 11 enables, 10 disables and 0x keeps is the spec's decision D3, PRESUMED: log entry 19. -/
def Obligations.ModeControl : Prop :=
  (∀ f : ModeField, f.code = match f with | .ena => 0b11#2 | .dis => 0b10#2 | .keep0 => 0b00#2 | .keep1 => 0b01#2) ∧
  ∀ (ti mm sat ol br sr sd int : ModeField) (s : State),
    encode (.modeControl ti mm sat ol br sr sd int)
      = [0b00001100#8 ++ ti.code ++ mm.code ++ sat.code ++ ol.code ++ br.code ++ sr.code ++ sd.code ++ int.code] ∧
    ∃ t, exec (.modeControl ti mm sat ol br sr sd int) s = .next t ∧
      t = { s with mstat := t.mstat, icntl := t.icntl, windows := t.windows } ∧
      t.mstat.getLsbD 0 = modeBit sr (s.mstat.getLsbD 0) ∧ t.mstat.getLsbD 1 = modeBit br (s.mstat.getLsbD 1) ∧
      t.mstat.getLsbD 2 = modeBit ol (s.mstat.getLsbD 2) ∧ t.mstat.getLsbD 3 = modeBit sat (s.mstat.getLsbD 3) ∧
      t.mstat.getLsbD 4 = modeBit mm (s.mstat.getLsbD 4) ∧ t.mstat.getLsbD 5 = modeBit ti (s.mstat.getLsbD 5) ∧
      t.mstat.getLsbD 6 = modeBit sd (s.mstat.getLsbD 6) ∧
      (∀ k, t.icntl.getLsbD k = if k = 5 then modeBit int (s.icntl.getLsbD 5) else s.icntl.getLsbD k) ∧
      (Settled s → Settled t)

/-- R435, R560, R562: a value written into MSTAT, ASTAT, CCODE, CNTR, ICNTL or IMASK by a register load, into MSTAT or ASTAT by
POP STS or RTI, or into CNTR by POP LOOP, may be seen or not be seen by the uses of the next instructions, as many as
Table 6-2 says, and is seen by every later use; a read of SSTAT directly after a stack instruction may see each bit before or
after it. Old or new inside a window is the spec's decision D37: log entry 5 (POP LOOP: the model's reading); SSTAT: log
entry 7. -/
def Obligations.ModeWritesTakeEffectInTime : Prop :=
  ∀ (s t : State), Settled s →
    (∀ v : BitVec 12, exec (.loadReg3Imm v .mstat) s = .next t → MstatLatent s (v.setWidth 7) t) ∧
    (∀ v : BitVec 12, exec (.loadReg3Imm v .astat) s = .next t →
      ∀ u, Latent 1 (fun x => x.astatEff u) s.astat (v.setWidth 9) t) ∧
    (∀ v : BitVec 12, exec (.loadReg3Imm v .ccode) s = .next t →
      Latent 1 (fun x => x.ccodeEff) s.ccode (v.setWidth 4) t) ∧
    (∀ v, exec (.loadReg2Imm v .cntr) s = .next t → Latent 1 (fun x => x.cntrEff) s.cntr v t) ∧
    (∀ v, exec (.loadReg1Imm v .icntl) s = .next t → ∀ u, Latent 1 (fun x => x.icntlEff u) s.icntl v t) ∧
    (∀ v, exec (.loadReg1Imm v .imask) s = .next t → ∀ n, Latent 1 (fun x => x.imaskEff n) s.imask v t) ∧
    (∀ f rest db ss, s.statusStack = f :: rest →
      exec .popSts s = .next t ∨ exec (.rti db ss .always) s = .next t →
        MstatLatent s f.mstat t ∧ ∀ u, Latent 0 (fun x => x.astatEff u) s.astat f.astat t) ∧
    (∀ e rest, s.loopStack = e :: rest → exec .popLoop s = .next t → Latent 1 (fun x => x.cntrEff) s.cntr e.count t) ∧
    (∀ flush pc lp sts, exec (.stackControl flush pc lp sts) s = .next t →
      ∀ b, SstatLatent ((stackFree pc lp sts).getLsbD b) b s t) ∧
    ∀ db ss off n, exec (.callRel16 db off) s = .next t ∨ exec (.rts db .always) s = .next t ∨
        exec (.rti db ss .always) s = .next t ∨ exec (.doUntilCe n) s = .next t →
      ∀ b, SstatLatent true b s t

/-! ## Interrupts -/

/-- R505, R506, R507, R513: the interrupt taken is the lowest-numbered one that is latched, enabled and allowed by the
levels being served, and none is taken while a delayed branch is pending. The levels are the spec's decision D26,
delayed branches D33, interrupt 0 by R513 over R506 the model's reading: log entries 9 and 22. -/
def Obligations.TheHighestPriorityInterruptIsTaken : Prop :=
  ∀ (s : State) (n : Nat), Settled s →
    (s.interruptNow = some n ↔ s.dbpend = none ∧ CanInterrupt s n ∧ ∀ k, k < n → ¬CanInterrupt s k)

/-- R508, R510: taking interrupt `n` pushes PC and the status, clears its request, enters its level, leaves IDLE, and
goes on at VECTOR_BASE + 0x20·n; nothing else changes. Rests on the spec's decisions D26, D34, D35, D43, D44: log
entry 22; the SSTAT window is the spec's decision D37: log entry 7. -/
def Obligations.InterruptEntry : Prop :=
  ∀ (s : State) (n : Nat), Settled s → s.inputs = [] → s.interruptNow = some n →
    ∃ t, step s = .next t ∧
      let p := pushedSts (pushedPc s.pc s)
      (∀ k, t.irptl.getLsbD k = (!decide (k = n) && p.irptl.getLsbD k)) ∧
      (∀ k, k < 16 → t.inService.getLsbD k = (decide (k = n) || s.inService.getLsbD k)) ∧
      t = { p with
        pc := s.params.vectorBase + 0x20 * BitVec.ofNat 24 n, idle := false, irptl := t.irptl
        inService := t.inService, tick := s.tick + 1, windows := sstatOpened s 0xFF 1 s.windows }

/-- R459, R508: an interrupt, and an RTI executed as the first instruction of its routine, leave the interrupted program
where and as it was: the branch goes to its address, and all of the state is as before but for PC, IDLE, the requests of
interrupts `n` and 3, and the effect-latency windows. Rests on the spec's decisions D26, D34, D35, D43, D44: log entries 16
and 22. -/
def Obligations.AnInterruptAndItsReturnRestoreTheProgram : Prop :=
  ∀ (s t : State) (n : Nat) (ss : Bool), Settled s → s.inputs = [] → s.interruptNow = some n →
    s.inService.getLsbD n = false → s.pcStack.length < 33 → s.statusStack.length < 16 → step s = .next t →
    ∃ u, exec (.rti false ss .always) t = .next u ∧
      u = { s with
        redirect := some s.pc, pc := t.pc, idle := false, irptl := u.irptl, windows := u.windows, tick := s.tick + 1 } ∧
      ∀ k, k ≠ n → k ≠ 3 → u.irptl.getLsbD k = s.irptl.getLsbD k
end

