-- ==== Sys2Proof/Laws/Bits.lean ====
section
/-! SUPPORT. The bits of the bit-level helpers: one bit written, the lowest set bit, a mode field. -/

namespace Sys2Proof.Machine

/-- One bit written, the others as before (R10). -/
theorem putBit_get {w : Nat} (v : BitVec w) (i : Nat) (b : Bool) (k : Nat) (hi : i < w) :
    (putBit v i b).getLsbD k = if k = i then b else v.getLsbD k := by
  unfold putBit
  by_cases hk : k < w
  · split <;> by_cases h : k = i <;> simp [*] <;> omega
  · simp only [BitVec.getLsbD_of_ge _ _ (Nat.le_of_not_lt hk)]
    rw [if_neg (by omega)]

theorem putBit_same {w : Nat} (v : BitVec w) (i : Nat) (b : Bool) (hi : i < w) : (putBit v i b).getLsbD i = b := by
  rw [putBit_get _ _ _ _ hi, if_pos rfl]

theorem putBit_ne {w : Nat} (v : BitVec w) (i : Nat) (b : Bool) (k : Nat) (hi : i < w) (hk : k ≠ i) :
    (putBit v i b).getLsbD k = v.getLsbD k := by
  rw [putBit_get _ _ _ _ hi, if_neg hk]

/-- A number below 16 is below the lowest set bit exactly when no bit up to it is set (R506). -/
theorem lt_lowestBit (v : Word) (n : Nat) (hn : n < 16) : n < lowestBit v ↔ ∀ k, k ≤ n → v.getLsbD k = false := by
  unfold lowestBit
  cases h : (List.range 16).find? v.getLsbD with
  | none =>
    rw [List.find?_eq_none] at h
    simp only [hn, true_iff]
    exact fun k hk => by simpa using h k (List.mem_range.mpr (by omega))
  | some m =>
    rw [List.find?_range_eq_some] at h
    obtain ⟨h1, h2, h3⟩ := h
    simp only
    constructor
    · exact fun hlt k hk => by simpa using h3 k (by omega)
    · intro hall
      rcases Nat.lt_or_ge n m with h | h
      · exact h
      · rw [hall m h] at h1; cases h1

/-- Clearing the lowest set bit keeps exactly the set bits above another one (R459). -/
theorem clearLowest_get (v : Word) (k : Nat) :
    (clearLowest v).getLsbD k = (v.getLsbD k && decide (∃ j, j < k ∧ v.getLsbD j = true)) := by
  by_cases hk : k < 16
  · unfold clearLowest lowestBit
    cases h : (List.range 16).find? v.getLsbD with
    | none =>
      rw [List.find?_eq_none] at h
      have h := h k (List.mem_range.mpr hk)
      simp only [Bool.not_eq_true] at h
      have e : putBit v 16 false = v := by
        unfold putBit; show v &&& BitVec.allOnes 16 = v; exact BitVec.and_allOnes
      rw [e, h]; rfl
    | some m =>
      rw [List.find?_range_eq_some] at h
      obtain ⟨h1, h2, h3⟩ := h
      simp only
      rw [putBit_get _ _ _ _ (List.mem_range.mp h2)]
      by_cases hkm : k = m
      · subst hkm
        rw [if_pos rfl, eq_comm, Bool.and_eq_false_iff, decide_eq_false_iff_not]
        refine .inr ?_
        rintro ⟨j, hj, hv⟩
        have := h3 j hj; rw [hv] at this; cases this
      · rw [if_neg hkm]
        rcases Nat.lt_or_ge k m with hlt | hge
        · have := h3 k hlt
          simp only [Bool.not_eq_true'] at this
          rw [this]; rfl
        · rw [decide_eq_true ⟨m, by omega, h1⟩, Bool.and_true]
  · simp [BitVec.getLsbD_of_ge _ k (Nat.le_of_not_lt hk)]

/-- The bit a mode field names (R168, R470): set, cleared or kept; no other bit changes. -/
theorem setMode_same {w : Nat} (f : ModeField) (i : Nat) (v : BitVec w) (hi : i < w) :
    (setMode f i v).getLsbD i = match f with | .ena => true | .dis => false | _ => v.getLsbD i := by
  cases f <;> simp only [setMode, modeValue, putBit_same _ _ _ hi]

theorem setMode_ne {w : Nat} (f : ModeField) (i : Nat) (v : BitVec w) (k : Nat) (hi : i < w) (hk : k ≠ i) :
    (setMode f i v).getLsbD k = v.getLsbD k := by
  cases f <;> simp only [setMode, modeValue, putBit_ne _ _ _ _ hi hk]

end Sys2Proof.Machine
end

