-- ==== Sys2Proof/Laws/Encoding.lean ====
section
/-! SUPPORT. Decoding the fields of an encoded instruction: each field code reads back (`ofCode_code`), and a field of a word
written as a row of fields joined by `++` is found by the `field_append` lemmas. With `encode` and the decoder of the
instruction's type unfolded, `simp (disch := omega) only` with `field`, `flag`, those lemmas, `Nat.reduceSub`, `field_whole`,
`BitVec.cast_eq` and `BitVec.reduceExtractLsb'` brings every field of the word to its code; a plain `simp` does the rest. (The
widths must not be added up before: no `Nat.reduceAdd`.) -/

namespace Sys2Proof

/-! ## Field codes read back (R143 to R151) -/

@[simp] theorem ResultReg.ofCode_code (x : ResultReg) : ResultReg.ofCode x.code = x := by cases x <;> rfl
@[simp] theorem AluFn.ofCode_code (x : AluFn) : AluFn.ofCode x.code = x := by cases x <;> rfl
@[simp] theorem ShiftFn.ofCode_code (x : ShiftFn) : ShiftFn.ofCode x.code = x := by cases x <;> rfl
@[simp] theorem AluXop.ofCode_code (x : AluXop) : AluXop.ofCode x.code = x := by cases x <;> rfl
@[simp] theorem MacXop.ofCode_code (x : MacXop) : MacXop.ofCode x.code = x := by cases x <;> rfl
@[simp] theorem ShiftXop.ofCode_code (x : ShiftXop) : ShiftXop.ofCode x.code = x := by cases x <;> rfl
@[simp] theorem AluYop.ofCode_code (x : AluYop) : AluYop.ofCode x.code = x := by cases x <;> rfl
@[simp] theorem MacYop.ofCode_code (x : MacYop) : MacYop.ofCode x.code = x := by cases x <;> rfl
@[simp] theorem DivYop.ofCode_code (x : DivYop) : DivYop.ofCode x.code = some x := by cases x <;> rfl
@[simp] theorem Dreg.ofCode_code (x : Dreg) : Dreg.ofCode x.code = x := by cases x <;> rfl
@[simp] theorem Dag.ofCode_code (x : Dag) : Dag.ofCode x.code = x := by cases x <;> rfl
@[simp] theorem Slot.ofCode_code (x : Slot) : Slot.ofCode x.code = x := by cases x <;> rfl
@[simp] theorem DagKind.ofCode_code (x : DagKind) : DagKind.ofCode x.code = some x := by cases x <;> rfl
@[simp] theorem Reg1.ofCode_code (x : Reg1) : Reg1.ofCode x.code = x := by cases x <;> rfl
@[simp] theorem Reg2.ofCode_code (x : Reg2) : Reg2.ofCode x.code = some x := by cases x <;> rfl
@[simp] theorem Reg3.ofCode_code (x : Reg3) : Reg3.ofCode x.code = some x := by cases x <;> rfl
@[simp] theorem Cond.ofCode_code (x : Cond) : Cond.ofCode x.code = x := by cases x <;> rfl
@[simp] theorem DmDest.ofCode_code (x : DmDest) : DmDest.ofCode x.code = x := by cases x <;> rfl
@[simp] theorem PmDest.ofCode_code (x : PmDest) : PmDest.ofCode x.code = x := by cases x <;> rfl
@[simp] theorem StackField.ofCode_code (x : StackField) : StackField.ofCode x.code = x := by cases x <;> rfl
@[simp] theorem ModeField.ofCode_code (x : ModeField) : ModeField.ofCode x.code = x := by cases x <;> rfl

@[simp] theorem DagReg.ofCode_code (x : DagReg) : DagReg.ofCode x.code = x := by
  cases x <;> (rename_i g n; cases g <;> cases n <;> rfl)

@[simp] theorem Reg.ofCode_code (r : Reg) : Reg.ofCode r.group r.addr = some r := by
  cases r <;> (rename_i d; cases d <;> rfl)

@[simp] theorem macOfCode_macCode (op : MacOp) (fmt : MacFmt) : macOfCode (macCode op fmt) = some (op, fmt) := by
  cases op <;> cases fmt <;> rfl

@[simp] theorem bit_eq (b : Bool) : (bit b == 1#1) = b := by cases b <;> rfl

/-! ## Fields of a joined word -/

/-- A field inside the right part of a join. -/
theorem field_append_right {n m : Nat} (x : BitVec n) (y : BitVec m) (lo len : Nat) (h : lo + len ≤ m) :
    (x ++ y).extractLsb' lo len = y.extractLsb' lo len := by
  apply BitVec.eq_of_getLsbD_eq
  intro i hi
  simp only [BitVec.getLsbD_extractLsb', BitVec.getLsbD_append, hi, decide_true, Bool.true_and]
  rw [if_pos (by omega)]

/-- A field inside the left part of a join. -/
theorem field_append_left {n m : Nat} (x : BitVec n) (y : BitVec m) (lo len : Nat) (h : m ≤ lo) :
    (x ++ y).extractLsb' lo len = x.extractLsb' (lo - m) len := by
  apply BitVec.eq_of_getLsbD_eq
  intro i hi
  simp only [BitVec.getLsbD_extractLsb', BitVec.getLsbD_append, hi, decide_true, Bool.true_and]
  rw [if_neg (by omega), show lo + i - m = lo - m + i by omega]

/-- A field across a join: a field of the left part above one of the right part. -/
theorem field_append_across {n m : Nat} (x : BitVec n) (y : BitVec m) (lo len : Nat) (h1 : lo < m) (h2 : m < lo + len) :
    (x ++ y).extractLsb' lo len
      = (x.extractLsb' 0 (lo + len - m) ++ y.extractLsb' lo (m - lo)).cast (by omega) := by
  apply BitVec.eq_of_getLsbD_eq
  intro i hi
  simp only [BitVec.getLsbD_extractLsb', BitVec.getLsbD_append, BitVec.getLsbD_cast, hi, decide_true, Bool.true_and,
    Nat.zero_add]
  by_cases h : lo + i < m
  · rw [if_pos h, if_pos (by omega)]; simp [show i < m - lo by omega]
  · rw [if_neg h, if_neg (by omega)]
    rw [show i - (m - lo) = lo + i - m by omega]; simp [show lo + i - m < lo + len - m by omega]

/-- A whole part. -/
theorem field_whole {n : Nat} (x : BitVec n) : x.extractLsb' 0 n = x := BitVec.extractLsb'_eq_self

/-- A code whose halves stand apart in the word. -/
@[simp] theorem nibble_halves (x : BitVec 4) : x.extractLsb' 2 2 ++ x.extractLsb' 0 2 = x := by revert x; decide

/-- An example of the recipe: a word of Type 9, form (a). -/
theorem decodeFields_aluAddYop (z : ResultReg) (y : AluYop) (x : AluXop) (c : Cond) (v : Code) :
    decodeFields ((encode (.aluAddYop z y x c)).headD 0) v = .ok (.aluAddYop z y x c) := by
  simp (disch := omega) only [encode, List.headD_cons, decodeFields, decodeType9, field, flag, field_append_left,
    field_append_right, field_append_across, Nat.reduceSub, field_whole, BitVec.cast_eq, BitVec.reduceExtractLsb']
  simp [Instr.aluYop, AluFn.ofCode]

end Sys2Proof
end

