-- ==== Sys2Proof/Laws/Memory.lean ====
section
/-! SUPPORT. The laws of memory: a read after a write, writes keep the canonical form, and what one access of the core
(R107) does to it. -/

namespace Sys2Proof.Machine

/-! ## Cells -/

theorem lookupCell_below {l : List Host.Cell} {low key : Nat} (h : cellsFrom low l) (hk : key < low) :
    lookupCell l key = unlistedByte := by
  induction l generalizing low with
  | nil => rfl
  | cons c rest ih =>
    obtain ⟨k, b⟩ := c
    simp only [cellsFrom, Bool.and_eq_true, decide_eq_true_eq] at h
    simp only [lookupCell]
    rw [if_neg (by omega)]
    exact ih h.2 (by omega)

theorem lookupCell_putCell_ne (l : List Host.Cell) {k key : Nat} (v : BitVec 8) (h : key ≠ k) :
    lookupCell (putCell k v l) key = lookupCell l key := by
  induction l with
  | nil =>
    simp only [putCell]
    split
    · rfl
    · simp only [lookupCell]; rw [if_neg (by omega)]
  | cons c rest ih =>
    obtain ⟨k', b⟩ := c
    simp only [putCell]
    split
    · split
      · rfl
      · rw [lookupCell, if_neg (by omega)]
    · split
      · subst k'
        split
        · rw [lookupCell, if_neg (by omega)]
        · rw [lookupCell, lookupCell, if_neg (by omega), if_neg (by omega)]
      · simp only [lookupCell]
        rw [ih]

theorem lookupCell_putCell_eq {l : List Host.Cell} {low : Nat} (h : cellsFrom low l) (k : Nat) (v : BitVec 8) :
    lookupCell (putCell k v l) k = v := by
  induction l generalizing low with
  | nil =>
    simp only [putCell]
    split
    · simp only [lookupCell]; exact Eq.symm ‹_›
    · simp only [lookupCell, if_pos]
  | cons c rest ih =>
    obtain ⟨k', b⟩ := c
    simp only [cellsFrom, Bool.and_eq_true, decide_eq_true_eq] at h
    simp only [putCell]
    split
    · split
      · rw [lookupCell, if_neg (by omega), lookupCell_below h.2 (by omega)]
        exact Eq.symm ‹_›
      · simp only [lookupCell, if_pos]
    · split
      · subst k'
        split
        · rw [lookupCell_below h.2 (by omega)]; exact Eq.symm ‹_›
        · simp only [lookupCell, if_pos]
      · rw [lookupCell, if_neg (by omega)]
        exact ih h.2

theorem cellsFrom_mono {l : List Host.Cell} {low low' : Nat} (h : cellsFrom low l) (hl : low' ≤ low) :
    cellsFrom low' l := by
  cases l with
  | nil => rfl
  | cons c rest =>
    obtain ⟨k, b⟩ := c
    simp only [cellsFrom, Bool.and_eq_true, decide_eq_true_eq] at h ⊢
    exact ⟨⟨by omega, h.1.2⟩, h.2⟩

theorem cellsFrom_putCell {l : List Host.Cell} {low : Nat} (h : cellsFrom low l) (k : Nat) (v : BitVec 8)
    (hl : low ≤ k) (hk : k < 3 * 2 ^ 24) : cellsFrom low (putCell k v l) := by
  induction l generalizing low with
  | nil =>
    simp only [putCell]
    split
    · rfl
    · simp only [cellsFrom, Bool.and_eq_true, decide_eq_true_eq, bne_iff_ne, ne_eq]
      exact ⟨⟨⟨hl, hk⟩, ‹_›⟩, trivial⟩
  | cons c rest ih =>
    obtain ⟨k', b⟩ := c
    have h' := h
    simp only [cellsFrom, Bool.and_eq_true, decide_eq_true_eq] at h
    simp only [putCell]
    split
    · split
      · exact h'
      · simp only [cellsFrom, Bool.and_eq_true, decide_eq_true_eq, bne_iff_ne, ne_eq]
        exact ⟨⟨⟨hl, hk⟩, ‹_›⟩, ⟨⟨by omega, by omega⟩, by simpa using h.1.2⟩, h.2⟩
    · split
      · subst k'
        split
        · exact cellsFrom_mono h.2 (by omega)
        · simp only [cellsFrom, Bool.and_eq_true, decide_eq_true_eq, bne_iff_ne, ne_eq]
          exact ⟨⟨⟨hl, hk⟩, ‹_›⟩, h.2⟩
      · simp only [cellsFrom, Bool.and_eq_true, decide_eq_true_eq]
        exact ⟨h.1, ih h.2 (by omega)⟩

/-! ## Bytes and locations -/

theorem byteKey_lt (a : Addr) : byteKey a + 2 < 3 * 2 ^ 24 := by
  have := a.isLt
  simp only [byteKey]
  omega

theorem Memory.wf_writeByte {m : Memory} (h : m.wf) (k : Nat) (v : BitVec 8) (hk : k < 3 * 2 ^ 24) :
    (m.writeByte k v).wf :=
  cellsFrom_putCell h k v (Nat.zero_le k) hk

theorem Memory.readByte_writeByte_ne (m : Memory) {k key : Nat} (v : BitVec 8) (h : key ≠ k) :
    (m.writeByte k v).readByte key = m.readByte key :=
  lookupCell_putCell_ne m.cells v h

theorem Memory.readByte_writeByte_eq {m : Memory} (h : m.wf) (k : Nat) (v : BitVec 8) :
    (m.writeByte k v).readByte k = v :=
  lookupCell_putCell_eq h k v

/-- A location written keeps memory in canonical form. -/
theorem Memory.wf_writeLoc {m : Memory} (h : m.wf) (a : Addr) (v : Code) : (m.writeLoc a v).wf := by
  have := byteKey_lt a
  exact wf_writeByte (wf_writeByte (wf_writeByte h _ _ (by omega)) _ _ (by omega)) _ _ (by omega)

/-- A location written leaves every byte of the other locations alone. -/
theorem Memory.readByte_writeLoc_ne (m : Memory) (a : Addr) (v : Code) {key : Nat}
    (h : key < byteKey a ∨ byteKey a + 2 < key) : (m.writeLoc a v).readByte key = m.readByte key := by
  simp only [writeLoc]
  rw [readByte_writeByte_ne _ _ (by omega), readByte_writeByte_ne _ _ (by omega), readByte_writeByte_ne _ _ (by omega)]

/-- A location reads as it was written. -/
theorem Memory.readLoc_writeLoc_eq {m : Memory} (h : m.wf) (a : Addr) (v : Code) : (m.writeLoc a v).readLoc a = v := by
  have hk := byteKey_lt a
  have h1 := wf_writeByte h (byteKey a) (v.extractLsb' 0 8) (by omega)
  have h2 := wf_writeByte h1 (byteKey a + 1) (v.extractLsb' 8 8) (by omega)
  simp only [writeLoc, readLoc]
  rw [readByte_writeByte_eq h2, readByte_writeByte_ne _ _ (by omega), readByte_writeByte_eq h1,
    readByte_writeByte_ne _ _ (by omega), readByte_writeByte_ne _ _ (by omega), readByte_writeByte_eq h]
  ext i hi
  simp only [BitVec.getElem_append, BitVec.getElem_extractLsb']
  by_cases h8 : i < 8
  · rw [dif_pos h8, BitVec.getLsbD_eq_getElem (by omega)]; simp
  · rw [dif_neg h8]
    by_cases h16 : i - 8 < 8
    · rw [dif_pos h16, BitVec.getLsbD_eq_getElem (by omega)]; congr 1; omega
    · rw [dif_neg h16, BitVec.getLsbD_eq_getElem (by omega)]; congr 1; omega

/-- Two locations with different addresses share no byte. -/
theorem byteKey_apart {a b : Addr} (h : a ≠ b) : byteKey b + 2 < byteKey a ∨ byteKey a + 2 < byteKey b := by
  have : a.toNat ≠ b.toNat := fun e => h (BitVec.eq_of_toNat_eq e)
  simp only [byteKey]
  omega

/-- A location written leaves the other locations as they were. -/
theorem Memory.readLoc_writeLoc_ne (m : Memory) {a b : Addr} (v : Code) (h : b ≠ a) :
    (m.writeLoc a v).readLoc b = m.readLoc b := by
  have := byteKey_apart h
  simp only [readLoc]
  rw [readByte_writeLoc_ne _ _ _ (by omega), readByte_writeLoc_ne _ _ _ (by omega), readByte_writeLoc_ne _ _ _ (by omega)]

/-! ## Accesses of the core (R107) -/

/-- All a 16-bit write can do: nothing, or write the one location; only memory and the stale words change. -/
theorem State.write16_cases (s : State) (a : Addr) (v : Word) :
    (s.params.width a = none ∧ s.write16 a v = s) ∨
    (s.params.width a = some .w16 ∧ s.write16 a v = { s with mem := s.mem.writeLoc a (0x00#8 ++ v) }) ∨
    (s.params.width a = some .w24 ∧ s.write16 a v = s.put24 a (v ++ 0x00#8)) := by
  unfold write16
  split <;> simp_all

/-- All a 24-bit write can do. -/
theorem State.write24_cases (s : State) (a : Addr) (t : Code) :
    (s.params.width a = none ∧ s.write24 a t = s) ∨
    (s.params.width a = some .w16 ∧
      s.write24 a t = { s with mem := s.mem.writeLoc a (0x00#8 ++ t.extractLsb' 8 16) }) ∨
    (s.params.width a = some .w24 ∧ s.write24 a t = s.put24 a t) := by
  unfold write24
  split <;> simp_all

/-- A 16-bit write changes memory and the stale words only. -/
theorem State.write16_frame (s : State) (a : Addr) (v : Word) :
    s.write16 a v = { s with mem := (s.write16 a v).mem, stale := (s.write16 a v).stale } := by
  rcases s.write16_cases a v with ⟨-, h⟩ | ⟨-, h⟩ | ⟨-, h⟩ <;> rw [h] <;> rfl

/-- A 24-bit write changes memory and the stale words only. -/
theorem State.write24_frame (s : State) (a : Addr) (t : Code) :
    s.write24 a t = { s with mem := (s.write24 a t).mem, stale := (s.write24 a t).stale } := by
  rcases s.write24_cases a t with ⟨-, h⟩ | ⟨-, h⟩ | ⟨-, h⟩ <;> rw [h] <;> rfl

theorem State.wf_write16 {s : State} (h : s.mem.wf) (a : Addr) (v : Word) : (s.write16 a v).mem.wf := by
  rcases s.write16_cases a v with ⟨-, e⟩ | ⟨-, e⟩ | ⟨-, e⟩ <;> rw [e]
  · exact h
  · exact Memory.wf_writeLoc h a _
  · exact Memory.wf_writeLoc h a _

theorem State.wf_write24 {s : State} (h : s.mem.wf) (a : Addr) (t : Code) : (s.write24 a t).mem.wf := by
  rcases s.write24_cases a t with ⟨-, e⟩ | ⟨-, e⟩ | ⟨-, e⟩ <;> rw [e]
  · exact h
  · exact Memory.wf_writeLoc h a _
  · exact Memory.wf_writeLoc h a _

/-- Every byte outside the three of the location written is unchanged by a 16-bit write. -/
theorem State.readByte_write16_ne (s : State) (a : Addr) (v : Word) {key : Nat}
    (h : key < byteKey a ∨ byteKey a + 2 < key) : (s.write16 a v).mem.readByte key = s.mem.readByte key := by
  rcases s.write16_cases a v with ⟨-, e⟩ | ⟨-, e⟩ | ⟨-, e⟩ <;> rw [e]
  · exact Memory.readByte_writeLoc_ne _ _ _ h
  · exact Memory.readByte_writeLoc_ne _ _ _ h

/-- Every byte outside the three of the location written is unchanged by a 24-bit write. -/
theorem State.readByte_write24_ne (s : State) (a : Addr) (t : Code) {key : Nat}
    (h : key < byteKey a ∨ byteKey a + 2 < key) : (s.write24 a t).mem.readByte key = s.mem.readByte key := by
  rcases s.write24_cases a t with ⟨-, e⟩ | ⟨-, e⟩ | ⟨-, e⟩ <;> rw [e]
  · exact Memory.readByte_writeLoc_ne _ _ _ h
  · exact Memory.readByte_writeLoc_ne _ _ _ h

/-- Reset memory is in canonical form. -/
theorem reset_mem_wf : State.reset.mem.wf := by decide

end Sys2Proof.Machine
end

