-- ==== Sys2Proof/Laws/State.lean ====
section
/-! SUPPORT. What each named update of the state leaves and makes of each field: one lemma per field per update, true by
unfolding, so that no later proof unfolds a record update. -/

namespace Sys2Proof.Machine

@[simp] theorem State.updData_data (s : State) (r : Role) (f : DataRegs → DataRegs) : (s.updData r f).data = s.data.set (s.secReg r) (f (s.dataAt r)) := rfl
@[simp] theorem State.updData_dags (s : State) (r : Role) (f : DataRegs → DataRegs) : (s.updData r f).dags = s.dags := rfl
@[simp] theorem State.updData_px (s : State) (r : Role) (f : DataRegs → DataRegs) : (s.updData r f).px = s.px := rfl
@[simp] theorem State.updData_dmpg1 (s : State) (r : Role) (f : DataRegs → DataRegs) : (s.updData r f).dmpg1 = s.dmpg1 := rfl
@[simp] theorem State.updData_dmpg2 (s : State) (r : Role) (f : DataRegs → DataRegs) : (s.updData r f).dmpg2 = s.dmpg2 := rfl
@[simp] theorem State.updData_iopg (s : State) (r : Role) (f : DataRegs → DataRegs) : (s.updData r f).iopg = s.iopg := rfl
@[simp] theorem State.updData_ijpg (s : State) (r : Role) (f : DataRegs → DataRegs) : (s.updData r f).ijpg = s.ijpg := rfl
@[simp] theorem State.updData_pc (s : State) (r : Role) (f : DataRegs → DataRegs) : (s.updData r f).pc = s.pc := rfl
@[simp] theorem State.updData_astat (s : State) (r : Role) (f : DataRegs → DataRegs) : (s.updData r f).astat = s.astat := rfl
@[simp] theorem State.updData_mstat (s : State) (r : Role) (f : DataRegs → DataRegs) : (s.updData r f).mstat = s.mstat := rfl
@[simp] theorem State.updData_sov (s : State) (r : Role) (f : DataRegs → DataRegs) : (s.updData r f).sov = s.sov := rfl
@[simp] theorem State.updData_imask (s : State) (r : Role) (f : DataRegs → DataRegs) : (s.updData r f).imask = s.imask := rfl
@[simp] theorem State.updData_irptl (s : State) (r : Role) (f : DataRegs → DataRegs) : (s.updData r f).irptl = s.irptl := rfl
@[simp] theorem State.updData_icntl (s : State) (r : Role) (f : DataRegs → DataRegs) : (s.updData r f).icntl = s.icntl := rfl
@[simp] theorem State.updData_cntr (s : State) (r : Role) (f : DataRegs → DataRegs) : (s.updData r f).cntr = s.cntr := rfl
@[simp] theorem State.updData_ccode (s : State) (r : Role) (f : DataRegs → DataRegs) : (s.updData r f).ccode = s.ccode := rfl
@[simp] theorem State.updData_stacka (s : State) (r : Role) (f : DataRegs → DataRegs) : (s.updData r f).stacka = s.stacka := rfl
@[simp] theorem State.updData_stackp (s : State) (r : Role) (f : DataRegs → DataRegs) : (s.updData r f).stackp = s.stackp := rfl
@[simp] theorem State.updData_lpstacka (s : State) (r : Role) (f : DataRegs → DataRegs) : (s.updData r f).lpstacka = s.lpstacka := rfl
@[simp] theorem State.updData_lpstackp (s : State) (r : Role) (f : DataRegs → DataRegs) : (s.updData r f).lpstackp = s.lpstackp := rfl
@[simp] theorem State.updData_pcStack (s : State) (r : Role) (f : DataRegs → DataRegs) : (s.updData r f).pcStack = s.pcStack := rfl
@[simp] theorem State.updData_loopStack (s : State) (r : Role) (f : DataRegs → DataRegs) : (s.updData r f).loopStack = s.loopStack := rfl
@[simp] theorem State.updData_statusStack (s : State) (r : Role) (f : DataRegs → DataRegs) : (s.updData r f).statusStack = s.statusStack := rfl
@[simp] theorem State.updData_dbpend (s : State) (r : Role) (f : DataRegs → DataRegs) : (s.updData r f).dbpend = s.dbpend := rfl
@[simp] theorem State.updData_idle (s : State) (r : Role) (f : DataRegs → DataRegs) : (s.updData r f).idle = s.idle := rfl
@[simp] theorem State.updData_inService (s : State) (r : Role) (f : DataRegs → DataRegs) : (s.updData r f).inService = s.inService := rfl
@[simp] theorem State.updData_windows (s : State) (r : Role) (f : DataRegs → DataRegs) : (s.updData r f).windows = s.windows := rfl
@[simp] theorem State.updData_mem (s : State) (r : Role) (f : DataRegs → DataRegs) : (s.updData r f).mem = s.mem := rfl
@[simp] theorem State.updData_stale (s : State) (r : Role) (f : DataRegs → DataRegs) : (s.updData r f).stale = s.stale := rfl
@[simp] theorem State.updData_params (s : State) (r : Role) (f : DataRegs → DataRegs) : (s.updData r f).params = s.params := rfl
@[simp] theorem State.updData_pf (s : State) (r : Role) (f : DataRegs → DataRegs) : (s.updData r f).pf = s.pf := rfl
@[simp] theorem State.updData_inputs (s : State) (r : Role) (f : DataRegs → DataRegs) : (s.updData r f).inputs = s.inputs := rfl
@[simp] theorem State.updData_outputs (s : State) (r : Role) (f : DataRegs → DataRegs) : (s.updData r f).outputs = s.outputs := rfl
@[simp] theorem State.updData_redirect (s : State) (r : Role) (f : DataRegs → DataRegs) : (s.updData r f).redirect = s.redirect := rfl
@[simp] theorem State.updData_tick (s : State) (r : Role) (f : DataRegs → DataRegs) : (s.updData r f).tick = s.tick := rfl

@[simp] theorem State.updDag_data (s : State) (g : Dag) (r : DagRole) (f : DagRegs → DagRegs) : (s.updDag g r f).data = s.data := rfl
@[simp] theorem State.updDag_dags (s : State) (g : Dag) (r : DagRole) (f : DagRegs → DagRegs) : (s.updDag g r f).dags = s.dags.set (s.secDag g r) ((s.dags.get (s.secDag g r)).set g (f (s.dagAt g r))) := rfl
@[simp] theorem State.updDag_px (s : State) (g : Dag) (r : DagRole) (f : DagRegs → DagRegs) : (s.updDag g r f).px = s.px := rfl
@[simp] theorem State.updDag_dmpg1 (s : State) (g : Dag) (r : DagRole) (f : DagRegs → DagRegs) : (s.updDag g r f).dmpg1 = s.dmpg1 := rfl
@[simp] theorem State.updDag_dmpg2 (s : State) (g : Dag) (r : DagRole) (f : DagRegs → DagRegs) : (s.updDag g r f).dmpg2 = s.dmpg2 := rfl
@[simp] theorem State.updDag_iopg (s : State) (g : Dag) (r : DagRole) (f : DagRegs → DagRegs) : (s.updDag g r f).iopg = s.iopg := rfl
@[simp] theorem State.updDag_ijpg (s : State) (g : Dag) (r : DagRole) (f : DagRegs → DagRegs) : (s.updDag g r f).ijpg = s.ijpg := rfl
@[simp] theorem State.updDag_pc (s : State) (g : Dag) (r : DagRole) (f : DagRegs → DagRegs) : (s.updDag g r f).pc = s.pc := rfl
@[simp] theorem State.updDag_astat (s : State) (g : Dag) (r : DagRole) (f : DagRegs → DagRegs) : (s.updDag g r f).astat = s.astat := rfl
@[simp] theorem State.updDag_mstat (s : State) (g : Dag) (r : DagRole) (f : DagRegs → DagRegs) : (s.updDag g r f).mstat = s.mstat := rfl
@[simp] theorem State.updDag_sov (s : State) (g : Dag) (r : DagRole) (f : DagRegs → DagRegs) : (s.updDag g r f).sov = s.sov := rfl
@[simp] theorem State.updDag_imask (s : State) (g : Dag) (r : DagRole) (f : DagRegs → DagRegs) : (s.updDag g r f).imask = s.imask := rfl
@[simp] theorem State.updDag_irptl (s : State) (g : Dag) (r : DagRole) (f : DagRegs → DagRegs) : (s.updDag g r f).irptl = s.irptl := rfl
@[simp] theorem State.updDag_icntl (s : State) (g : Dag) (r : DagRole) (f : DagRegs → DagRegs) : (s.updDag g r f).icntl = s.icntl := rfl
@[simp] theorem State.updDag_cntr (s : State) (g : Dag) (r : DagRole) (f : DagRegs → DagRegs) : (s.updDag g r f).cntr = s.cntr := rfl
@[simp] theorem State.updDag_ccode (s : State) (g : Dag) (r : DagRole) (f : DagRegs → DagRegs) : (s.updDag g r f).ccode = s.ccode := rfl
@[simp] theorem State.updDag_stacka (s : State) (g : Dag) (r : DagRole) (f : DagRegs → DagRegs) : (s.updDag g r f).stacka = s.stacka := rfl
@[simp] theorem State.updDag_stackp (s : State) (g : Dag) (r : DagRole) (f : DagRegs → DagRegs) : (s.updDag g r f).stackp = s.stackp := rfl
@[simp] theorem State.updDag_lpstacka (s : State) (g : Dag) (r : DagRole) (f : DagRegs → DagRegs) : (s.updDag g r f).lpstacka = s.lpstacka := rfl
@[simp] theorem State.updDag_lpstackp (s : State) (g : Dag) (r : DagRole) (f : DagRegs → DagRegs) : (s.updDag g r f).lpstackp = s.lpstackp := rfl
@[simp] theorem State.updDag_pcStack (s : State) (g : Dag) (r : DagRole) (f : DagRegs → DagRegs) : (s.updDag g r f).pcStack = s.pcStack := rfl
@[simp] theorem State.updDag_loopStack (s : State) (g : Dag) (r : DagRole) (f : DagRegs → DagRegs) : (s.updDag g r f).loopStack = s.loopStack := rfl
@[simp] theorem State.updDag_statusStack (s : State) (g : Dag) (r : DagRole) (f : DagRegs → DagRegs) : (s.updDag g r f).statusStack = s.statusStack := rfl
@[simp] theorem State.updDag_dbpend (s : State) (g : Dag) (r : DagRole) (f : DagRegs → DagRegs) : (s.updDag g r f).dbpend = s.dbpend := rfl
@[simp] theorem State.updDag_idle (s : State) (g : Dag) (r : DagRole) (f : DagRegs → DagRegs) : (s.updDag g r f).idle = s.idle := rfl
@[simp] theorem State.updDag_inService (s : State) (g : Dag) (r : DagRole) (f : DagRegs → DagRegs) : (s.updDag g r f).inService = s.inService := rfl
@[simp] theorem State.updDag_windows (s : State) (g : Dag) (r : DagRole) (f : DagRegs → DagRegs) : (s.updDag g r f).windows = s.windows := rfl
@[simp] theorem State.updDag_mem (s : State) (g : Dag) (r : DagRole) (f : DagRegs → DagRegs) : (s.updDag g r f).mem = s.mem := rfl
@[simp] theorem State.updDag_stale (s : State) (g : Dag) (r : DagRole) (f : DagRegs → DagRegs) : (s.updDag g r f).stale = s.stale := rfl
@[simp] theorem State.updDag_params (s : State) (g : Dag) (r : DagRole) (f : DagRegs → DagRegs) : (s.updDag g r f).params = s.params := rfl
@[simp] theorem State.updDag_pf (s : State) (g : Dag) (r : DagRole) (f : DagRegs → DagRegs) : (s.updDag g r f).pf = s.pf := rfl
@[simp] theorem State.updDag_inputs (s : State) (g : Dag) (r : DagRole) (f : DagRegs → DagRegs) : (s.updDag g r f).inputs = s.inputs := rfl
@[simp] theorem State.updDag_outputs (s : State) (g : Dag) (r : DagRole) (f : DagRegs → DagRegs) : (s.updDag g r f).outputs = s.outputs := rfl
@[simp] theorem State.updDag_redirect (s : State) (g : Dag) (r : DagRole) (f : DagRegs → DagRegs) : (s.updDag g r f).redirect = s.redirect := rfl
@[simp] theorem State.updDag_tick (s : State) (g : Dag) (r : DagRole) (f : DagRegs → DagRegs) : (s.updDag g r f).tick = s.tick := rfl

@[simp] theorem State.put24_data (s : State) (a : Addr) (v : Code) : (s.put24 a v).data = s.data := rfl
@[simp] theorem State.put24_dags (s : State) (a : Addr) (v : Code) : (s.put24 a v).dags = s.dags := rfl
@[simp] theorem State.put24_px (s : State) (a : Addr) (v : Code) : (s.put24 a v).px = s.px := rfl
@[simp] theorem State.put24_dmpg1 (s : State) (a : Addr) (v : Code) : (s.put24 a v).dmpg1 = s.dmpg1 := rfl
@[simp] theorem State.put24_dmpg2 (s : State) (a : Addr) (v : Code) : (s.put24 a v).dmpg2 = s.dmpg2 := rfl
@[simp] theorem State.put24_iopg (s : State) (a : Addr) (v : Code) : (s.put24 a v).iopg = s.iopg := rfl
@[simp] theorem State.put24_ijpg (s : State) (a : Addr) (v : Code) : (s.put24 a v).ijpg = s.ijpg := rfl
@[simp] theorem State.put24_pc (s : State) (a : Addr) (v : Code) : (s.put24 a v).pc = s.pc := rfl
@[simp] theorem State.put24_astat (s : State) (a : Addr) (v : Code) : (s.put24 a v).astat = s.astat := rfl
@[simp] theorem State.put24_mstat (s : State) (a : Addr) (v : Code) : (s.put24 a v).mstat = s.mstat := rfl
@[simp] theorem State.put24_sov (s : State) (a : Addr) (v : Code) : (s.put24 a v).sov = s.sov := rfl
@[simp] theorem State.put24_imask (s : State) (a : Addr) (v : Code) : (s.put24 a v).imask = s.imask := rfl
@[simp] theorem State.put24_irptl (s : State) (a : Addr) (v : Code) : (s.put24 a v).irptl = s.irptl := rfl
@[simp] theorem State.put24_icntl (s : State) (a : Addr) (v : Code) : (s.put24 a v).icntl = s.icntl := rfl
@[simp] theorem State.put24_cntr (s : State) (a : Addr) (v : Code) : (s.put24 a v).cntr = s.cntr := rfl
@[simp] theorem State.put24_ccode (s : State) (a : Addr) (v : Code) : (s.put24 a v).ccode = s.ccode := rfl
@[simp] theorem State.put24_stacka (s : State) (a : Addr) (v : Code) : (s.put24 a v).stacka = s.stacka := rfl
@[simp] theorem State.put24_stackp (s : State) (a : Addr) (v : Code) : (s.put24 a v).stackp = s.stackp := rfl
@[simp] theorem State.put24_lpstacka (s : State) (a : Addr) (v : Code) : (s.put24 a v).lpstacka = s.lpstacka := rfl
@[simp] theorem State.put24_lpstackp (s : State) (a : Addr) (v : Code) : (s.put24 a v).lpstackp = s.lpstackp := rfl
@[simp] theorem State.put24_pcStack (s : State) (a : Addr) (v : Code) : (s.put24 a v).pcStack = s.pcStack := rfl
@[simp] theorem State.put24_loopStack (s : State) (a : Addr) (v : Code) : (s.put24 a v).loopStack = s.loopStack := rfl
@[simp] theorem State.put24_statusStack (s : State) (a : Addr) (v : Code) : (s.put24 a v).statusStack = s.statusStack := rfl
@[simp] theorem State.put24_dbpend (s : State) (a : Addr) (v : Code) : (s.put24 a v).dbpend = s.dbpend := rfl
@[simp] theorem State.put24_idle (s : State) (a : Addr) (v : Code) : (s.put24 a v).idle = s.idle := rfl
@[simp] theorem State.put24_inService (s : State) (a : Addr) (v : Code) : (s.put24 a v).inService = s.inService := rfl
@[simp] theorem State.put24_windows (s : State) (a : Addr) (v : Code) : (s.put24 a v).windows = s.windows := rfl
@[simp] theorem State.put24_mem (s : State) (a : Addr) (v : Code) : (s.put24 a v).mem = s.mem.writeLoc a v := rfl
@[simp] theorem State.put24_stale (s : State) (a : Addr) (v : Code) : (s.put24 a v).stale = ⟨a, s.mem.readLoc a, none⟩ :: s.stale := rfl
@[simp] theorem State.put24_params (s : State) (a : Addr) (v : Code) : (s.put24 a v).params = s.params := rfl
@[simp] theorem State.put24_pf (s : State) (a : Addr) (v : Code) : (s.put24 a v).pf = s.pf := rfl
@[simp] theorem State.put24_inputs (s : State) (a : Addr) (v : Code) : (s.put24 a v).inputs = s.inputs := rfl
@[simp] theorem State.put24_outputs (s : State) (a : Addr) (v : Code) : (s.put24 a v).outputs = s.outputs := rfl
@[simp] theorem State.put24_redirect (s : State) (a : Addr) (v : Code) : (s.put24 a v).redirect = s.redirect := rfl
@[simp] theorem State.put24_tick (s : State) (a : Addr) (v : Code) : (s.put24 a v).tick = s.tick := rfl

@[simp] theorem State.flushCache_data (s : State) : (s.flushCache).data = s.data := rfl
@[simp] theorem State.flushCache_dags (s : State) : (s.flushCache).dags = s.dags := rfl
@[simp] theorem State.flushCache_px (s : State) : (s.flushCache).px = s.px := rfl
@[simp] theorem State.flushCache_dmpg1 (s : State) : (s.flushCache).dmpg1 = s.dmpg1 := rfl
@[simp] theorem State.flushCache_dmpg2 (s : State) : (s.flushCache).dmpg2 = s.dmpg2 := rfl
@[simp] theorem State.flushCache_iopg (s : State) : (s.flushCache).iopg = s.iopg := rfl
@[simp] theorem State.flushCache_ijpg (s : State) : (s.flushCache).ijpg = s.ijpg := rfl
@[simp] theorem State.flushCache_pc (s : State) : (s.flushCache).pc = s.pc := rfl
@[simp] theorem State.flushCache_astat (s : State) : (s.flushCache).astat = s.astat := rfl
@[simp] theorem State.flushCache_mstat (s : State) : (s.flushCache).mstat = s.mstat := rfl
@[simp] theorem State.flushCache_sov (s : State) : (s.flushCache).sov = s.sov := rfl
@[simp] theorem State.flushCache_imask (s : State) : (s.flushCache).imask = s.imask := rfl
@[simp] theorem State.flushCache_irptl (s : State) : (s.flushCache).irptl = s.irptl := rfl
@[simp] theorem State.flushCache_icntl (s : State) : (s.flushCache).icntl = s.icntl := rfl
@[simp] theorem State.flushCache_cntr (s : State) : (s.flushCache).cntr = s.cntr := rfl
@[simp] theorem State.flushCache_ccode (s : State) : (s.flushCache).ccode = s.ccode := rfl
@[simp] theorem State.flushCache_stacka (s : State) : (s.flushCache).stacka = s.stacka := rfl
@[simp] theorem State.flushCache_stackp (s : State) : (s.flushCache).stackp = s.stackp := rfl
@[simp] theorem State.flushCache_lpstacka (s : State) : (s.flushCache).lpstacka = s.lpstacka := rfl
@[simp] theorem State.flushCache_lpstackp (s : State) : (s.flushCache).lpstackp = s.lpstackp := rfl
@[simp] theorem State.flushCache_pcStack (s : State) : (s.flushCache).pcStack = s.pcStack := rfl
@[simp] theorem State.flushCache_loopStack (s : State) : (s.flushCache).loopStack = s.loopStack := rfl
@[simp] theorem State.flushCache_statusStack (s : State) : (s.flushCache).statusStack = s.statusStack := rfl
@[simp] theorem State.flushCache_dbpend (s : State) : (s.flushCache).dbpend = s.dbpend := rfl
@[simp] theorem State.flushCache_idle (s : State) : (s.flushCache).idle = s.idle := rfl
@[simp] theorem State.flushCache_inService (s : State) : (s.flushCache).inService = s.inService := rfl
@[simp] theorem State.flushCache_windows (s : State) : (s.flushCache).windows = s.windows := rfl
@[simp] theorem State.flushCache_mem (s : State) : (s.flushCache).mem = s.mem := rfl
@[simp] theorem State.flushCache_stale (s : State) : (s.flushCache).stale = s.stale.map fun e => { e with due := some (min 7 (e.due.getD 7)) } := rfl
@[simp] theorem State.flushCache_params (s : State) : (s.flushCache).params = s.params := rfl
@[simp] theorem State.flushCache_pf (s : State) : (s.flushCache).pf = s.pf := rfl
@[simp] theorem State.flushCache_inputs (s : State) : (s.flushCache).inputs = s.inputs := rfl
@[simp] theorem State.flushCache_outputs (s : State) : (s.flushCache).outputs = s.outputs := rfl
@[simp] theorem State.flushCache_redirect (s : State) : (s.flushCache).redirect = s.redirect := rfl
@[simp] theorem State.flushCache_tick (s : State) : (s.flushCache).tick = s.tick := rfl

@[simp] theorem State.openSstat_data (t s : State) (b : BitVec 8) : (t.openSstat s b).data = t.data := rfl
@[simp] theorem State.openSstat_dags (t s : State) (b : BitVec 8) : (t.openSstat s b).dags = t.dags := rfl
@[simp] theorem State.openSstat_px (t s : State) (b : BitVec 8) : (t.openSstat s b).px = t.px := rfl
@[simp] theorem State.openSstat_dmpg1 (t s : State) (b : BitVec 8) : (t.openSstat s b).dmpg1 = t.dmpg1 := rfl
@[simp] theorem State.openSstat_dmpg2 (t s : State) (b : BitVec 8) : (t.openSstat s b).dmpg2 = t.dmpg2 := rfl
@[simp] theorem State.openSstat_iopg (t s : State) (b : BitVec 8) : (t.openSstat s b).iopg = t.iopg := rfl
@[simp] theorem State.openSstat_ijpg (t s : State) (b : BitVec 8) : (t.openSstat s b).ijpg = t.ijpg := rfl
@[simp] theorem State.openSstat_pc (t s : State) (b : BitVec 8) : (t.openSstat s b).pc = t.pc := rfl
@[simp] theorem State.openSstat_astat (t s : State) (b : BitVec 8) : (t.openSstat s b).astat = t.astat := rfl
@[simp] theorem State.openSstat_mstat (t s : State) (b : BitVec 8) : (t.openSstat s b).mstat = t.mstat := rfl
@[simp] theorem State.openSstat_sov (t s : State) (b : BitVec 8) : (t.openSstat s b).sov = t.sov := rfl
@[simp] theorem State.openSstat_imask (t s : State) (b : BitVec 8) : (t.openSstat s b).imask = t.imask := rfl
@[simp] theorem State.openSstat_irptl (t s : State) (b : BitVec 8) : (t.openSstat s b).irptl = t.irptl := rfl
@[simp] theorem State.openSstat_icntl (t s : State) (b : BitVec 8) : (t.openSstat s b).icntl = t.icntl := rfl
@[simp] theorem State.openSstat_cntr (t s : State) (b : BitVec 8) : (t.openSstat s b).cntr = t.cntr := rfl
@[simp] theorem State.openSstat_ccode (t s : State) (b : BitVec 8) : (t.openSstat s b).ccode = t.ccode := rfl
@[simp] theorem State.openSstat_stacka (t s : State) (b : BitVec 8) : (t.openSstat s b).stacka = t.stacka := rfl
@[simp] theorem State.openSstat_stackp (t s : State) (b : BitVec 8) : (t.openSstat s b).stackp = t.stackp := rfl
@[simp] theorem State.openSstat_lpstacka (t s : State) (b : BitVec 8) : (t.openSstat s b).lpstacka = t.lpstacka := rfl
@[simp] theorem State.openSstat_lpstackp (t s : State) (b : BitVec 8) : (t.openSstat s b).lpstackp = t.lpstackp := rfl
@[simp] theorem State.openSstat_pcStack (t s : State) (b : BitVec 8) : (t.openSstat s b).pcStack = t.pcStack := rfl
@[simp] theorem State.openSstat_loopStack (t s : State) (b : BitVec 8) : (t.openSstat s b).loopStack = t.loopStack := rfl
@[simp] theorem State.openSstat_statusStack (t s : State) (b : BitVec 8) : (t.openSstat s b).statusStack = t.statusStack := rfl
@[simp] theorem State.openSstat_dbpend (t s : State) (b : BitVec 8) : (t.openSstat s b).dbpend = t.dbpend := rfl
@[simp] theorem State.openSstat_idle (t s : State) (b : BitVec 8) : (t.openSstat s b).idle = t.idle := rfl
@[simp] theorem State.openSstat_inService (t s : State) (b : BitVec 8) : (t.openSstat s b).inService = t.inService := rfl
@[simp] theorem State.openSstat_windows (t s : State) (b : BitVec 8) : (t.openSstat s b).windows = { t.windows with sstat := .since s.sstat b 2 } := rfl
@[simp] theorem State.openSstat_mem (t s : State) (b : BitVec 8) : (t.openSstat s b).mem = t.mem := rfl
@[simp] theorem State.openSstat_stale (t s : State) (b : BitVec 8) : (t.openSstat s b).stale = t.stale := rfl
@[simp] theorem State.openSstat_params (t s : State) (b : BitVec 8) : (t.openSstat s b).params = t.params := rfl
@[simp] theorem State.openSstat_pf (t s : State) (b : BitVec 8) : (t.openSstat s b).pf = t.pf := rfl
@[simp] theorem State.openSstat_inputs (t s : State) (b : BitVec 8) : (t.openSstat s b).inputs = t.inputs := rfl
@[simp] theorem State.openSstat_outputs (t s : State) (b : BitVec 8) : (t.openSstat s b).outputs = t.outputs := rfl
@[simp] theorem State.openSstat_redirect (t s : State) (b : BitVec 8) : (t.openSstat s b).redirect = t.redirect := rfl
@[simp] theorem State.openSstat_tick (t s : State) (b : BitVec 8) : (t.openSstat s b).tick = t.tick := rfl

@[simp] theorem State.overflow_data (s : State) : (s.overflow).data = s.data := rfl
@[simp] theorem State.overflow_dags (s : State) : (s.overflow).dags = s.dags := rfl
@[simp] theorem State.overflow_px (s : State) : (s.overflow).px = s.px := rfl
@[simp] theorem State.overflow_dmpg1 (s : State) : (s.overflow).dmpg1 = s.dmpg1 := rfl
@[simp] theorem State.overflow_dmpg2 (s : State) : (s.overflow).dmpg2 = s.dmpg2 := rfl
@[simp] theorem State.overflow_iopg (s : State) : (s.overflow).iopg = s.iopg := rfl
@[simp] theorem State.overflow_ijpg (s : State) : (s.overflow).ijpg = s.ijpg := rfl
@[simp] theorem State.overflow_pc (s : State) : (s.overflow).pc = s.pc := rfl
@[simp] theorem State.overflow_astat (s : State) : (s.overflow).astat = s.astat := rfl
@[simp] theorem State.overflow_mstat (s : State) : (s.overflow).mstat = s.mstat := rfl
@[simp] theorem State.overflow_sov (s : State) : (s.overflow).sov = true := rfl
@[simp] theorem State.overflow_imask (s : State) : (s.overflow).imask = s.imask := rfl
@[simp] theorem State.overflow_irptl (s : State) : (s.overflow).irptl = putBit s.irptl 3 true := rfl
@[simp] theorem State.overflow_icntl (s : State) : (s.overflow).icntl = s.icntl := rfl
@[simp] theorem State.overflow_cntr (s : State) : (s.overflow).cntr = s.cntr := rfl
@[simp] theorem State.overflow_ccode (s : State) : (s.overflow).ccode = s.ccode := rfl
@[simp] theorem State.overflow_stacka (s : State) : (s.overflow).stacka = s.stacka := rfl
@[simp] theorem State.overflow_stackp (s : State) : (s.overflow).stackp = s.stackp := rfl
@[simp] theorem State.overflow_lpstacka (s : State) : (s.overflow).lpstacka = s.lpstacka := rfl
@[simp] theorem State.overflow_lpstackp (s : State) : (s.overflow).lpstackp = s.lpstackp := rfl
@[simp] theorem State.overflow_pcStack (s : State) : (s.overflow).pcStack = s.pcStack := rfl
@[simp] theorem State.overflow_loopStack (s : State) : (s.overflow).loopStack = s.loopStack := rfl
@[simp] theorem State.overflow_statusStack (s : State) : (s.overflow).statusStack = s.statusStack := rfl
@[simp] theorem State.overflow_dbpend (s : State) : (s.overflow).dbpend = s.dbpend := rfl
@[simp] theorem State.overflow_idle (s : State) : (s.overflow).idle = s.idle := rfl
@[simp] theorem State.overflow_inService (s : State) : (s.overflow).inService = s.inService := rfl
@[simp] theorem State.overflow_windows (s : State) : (s.overflow).windows = s.windows := rfl
@[simp] theorem State.overflow_mem (s : State) : (s.overflow).mem = s.mem := rfl
@[simp] theorem State.overflow_stale (s : State) : (s.overflow).stale = s.stale := rfl
@[simp] theorem State.overflow_params (s : State) : (s.overflow).params = s.params := rfl
@[simp] theorem State.overflow_pf (s : State) : (s.overflow).pf = s.pf := rfl
@[simp] theorem State.overflow_inputs (s : State) : (s.overflow).inputs = s.inputs := rfl
@[simp] theorem State.overflow_outputs (s : State) : (s.overflow).outputs = s.outputs := rfl
@[simp] theorem State.overflow_redirect (s : State) : (s.overflow).redirect = s.redirect := rfl
@[simp] theorem State.overflow_tick (s : State) : (s.overflow).tick = s.tick := rfl

@[simp] theorem State.lpDrop_data (s : State) : (s.lpDrop).data = s.data := rfl
@[simp] theorem State.lpDrop_dags (s : State) : (s.lpDrop).dags = s.dags := rfl
@[simp] theorem State.lpDrop_px (s : State) : (s.lpDrop).px = s.px := rfl
@[simp] theorem State.lpDrop_dmpg1 (s : State) : (s.lpDrop).dmpg1 = s.dmpg1 := rfl
@[simp] theorem State.lpDrop_dmpg2 (s : State) : (s.lpDrop).dmpg2 = s.dmpg2 := rfl
@[simp] theorem State.lpDrop_iopg (s : State) : (s.lpDrop).iopg = s.iopg := rfl
@[simp] theorem State.lpDrop_ijpg (s : State) : (s.lpDrop).ijpg = s.ijpg := rfl
@[simp] theorem State.lpDrop_pc (s : State) : (s.lpDrop).pc = s.pc := rfl
@[simp] theorem State.lpDrop_astat (s : State) : (s.lpDrop).astat = s.astat := rfl
@[simp] theorem State.lpDrop_mstat (s : State) : (s.lpDrop).mstat = s.mstat := rfl
@[simp] theorem State.lpDrop_sov (s : State) : (s.lpDrop).sov = s.sov := rfl
@[simp] theorem State.lpDrop_imask (s : State) : (s.lpDrop).imask = s.imask := rfl
@[simp] theorem State.lpDrop_irptl (s : State) : (s.lpDrop).irptl = s.irptl := rfl
@[simp] theorem State.lpDrop_icntl (s : State) : (s.lpDrop).icntl = s.icntl := rfl
@[simp] theorem State.lpDrop_cntr (s : State) : (s.lpDrop).cntr = s.cntr := rfl
@[simp] theorem State.lpDrop_ccode (s : State) : (s.lpDrop).ccode = s.ccode := rfl
@[simp] theorem State.lpDrop_stacka (s : State) : (s.lpDrop).stacka = s.stacka := rfl
@[simp] theorem State.lpDrop_stackp (s : State) : (s.lpDrop).stackp = s.stackp := rfl
@[simp] theorem State.lpDrop_lpstacka (s : State) : (s.lpDrop).lpstacka = s.lpstacka := rfl
@[simp] theorem State.lpDrop_lpstackp (s : State) : (s.lpDrop).lpstackp = s.lpstackp := rfl
@[simp] theorem State.lpDrop_pcStack (s : State) : (s.lpDrop).pcStack = s.pcStack := rfl
@[simp] theorem State.lpDrop_loopStack (s : State) : (s.lpDrop).loopStack = s.loopStack.tail := rfl
@[simp] theorem State.lpDrop_statusStack (s : State) : (s.lpDrop).statusStack = s.statusStack := rfl
@[simp] theorem State.lpDrop_dbpend (s : State) : (s.lpDrop).dbpend = s.dbpend := rfl
@[simp] theorem State.lpDrop_idle (s : State) : (s.lpDrop).idle = s.idle := rfl
@[simp] theorem State.lpDrop_inService (s : State) : (s.lpDrop).inService = s.inService := rfl
@[simp] theorem State.lpDrop_windows (s : State) : (s.lpDrop).windows = s.windows := rfl
@[simp] theorem State.lpDrop_mem (s : State) : (s.lpDrop).mem = s.mem := rfl
@[simp] theorem State.lpDrop_stale (s : State) : (s.lpDrop).stale = s.stale := rfl
@[simp] theorem State.lpDrop_params (s : State) : (s.lpDrop).params = s.params := rfl
@[simp] theorem State.lpDrop_pf (s : State) : (s.lpDrop).pf = s.pf := rfl
@[simp] theorem State.lpDrop_inputs (s : State) : (s.lpDrop).inputs = s.inputs := rfl
@[simp] theorem State.lpDrop_outputs (s : State) : (s.lpDrop).outputs = s.outputs := rfl
@[simp] theorem State.lpDrop_redirect (s : State) : (s.lpDrop).redirect = s.redirect := rfl
@[simp] theorem State.lpDrop_tick (s : State) : (s.lpDrop).tick = s.tick := rfl

@[simp] theorem State.writeMstat_data (s : State) (v : BitVec 7) : (s.writeMstat v).data = s.data := rfl
@[simp] theorem State.writeMstat_dags (s : State) (v : BitVec 7) : (s.writeMstat v).dags = s.dags := rfl
@[simp] theorem State.writeMstat_px (s : State) (v : BitVec 7) : (s.writeMstat v).px = s.px := rfl
@[simp] theorem State.writeMstat_dmpg1 (s : State) (v : BitVec 7) : (s.writeMstat v).dmpg1 = s.dmpg1 := rfl
@[simp] theorem State.writeMstat_dmpg2 (s : State) (v : BitVec 7) : (s.writeMstat v).dmpg2 = s.dmpg2 := rfl
@[simp] theorem State.writeMstat_iopg (s : State) (v : BitVec 7) : (s.writeMstat v).iopg = s.iopg := rfl
@[simp] theorem State.writeMstat_ijpg (s : State) (v : BitVec 7) : (s.writeMstat v).ijpg = s.ijpg := rfl
@[simp] theorem State.writeMstat_pc (s : State) (v : BitVec 7) : (s.writeMstat v).pc = s.pc := rfl
@[simp] theorem State.writeMstat_astat (s : State) (v : BitVec 7) : (s.writeMstat v).astat = s.astat := rfl
@[simp] theorem State.writeMstat_mstat (s : State) (v : BitVec 7) : (s.writeMstat v).mstat = v := rfl
@[simp] theorem State.writeMstat_sov (s : State) (v : BitVec 7) : (s.writeMstat v).sov = s.sov := rfl
@[simp] theorem State.writeMstat_imask (s : State) (v : BitVec 7) : (s.writeMstat v).imask = s.imask := rfl
@[simp] theorem State.writeMstat_irptl (s : State) (v : BitVec 7) : (s.writeMstat v).irptl = s.irptl := rfl
@[simp] theorem State.writeMstat_icntl (s : State) (v : BitVec 7) : (s.writeMstat v).icntl = s.icntl := rfl
@[simp] theorem State.writeMstat_cntr (s : State) (v : BitVec 7) : (s.writeMstat v).cntr = s.cntr := rfl
@[simp] theorem State.writeMstat_ccode (s : State) (v : BitVec 7) : (s.writeMstat v).ccode = s.ccode := rfl
@[simp] theorem State.writeMstat_stacka (s : State) (v : BitVec 7) : (s.writeMstat v).stacka = s.stacka := rfl
@[simp] theorem State.writeMstat_stackp (s : State) (v : BitVec 7) : (s.writeMstat v).stackp = s.stackp := rfl
@[simp] theorem State.writeMstat_lpstacka (s : State) (v : BitVec 7) : (s.writeMstat v).lpstacka = s.lpstacka := rfl
@[simp] theorem State.writeMstat_lpstackp (s : State) (v : BitVec 7) : (s.writeMstat v).lpstackp = s.lpstackp := rfl
@[simp] theorem State.writeMstat_pcStack (s : State) (v : BitVec 7) : (s.writeMstat v).pcStack = s.pcStack := rfl
@[simp] theorem State.writeMstat_loopStack (s : State) (v : BitVec 7) : (s.writeMstat v).loopStack = s.loopStack := rfl
@[simp] theorem State.writeMstat_statusStack (s : State) (v : BitVec 7) : (s.writeMstat v).statusStack = s.statusStack := rfl
@[simp] theorem State.writeMstat_dbpend (s : State) (v : BitVec 7) : (s.writeMstat v).dbpend = s.dbpend := rfl
@[simp] theorem State.writeMstat_idle (s : State) (v : BitVec 7) : (s.writeMstat v).idle = s.idle := rfl
@[simp] theorem State.writeMstat_inService (s : State) (v : BitVec 7) : (s.writeMstat v).inService = s.inService := rfl
@[simp] theorem State.writeMstat_mem (s : State) (v : BitVec 7) : (s.writeMstat v).mem = s.mem := rfl
@[simp] theorem State.writeMstat_stale (s : State) (v : BitVec 7) : (s.writeMstat v).stale = s.stale := rfl
@[simp] theorem State.writeMstat_params (s : State) (v : BitVec 7) : (s.writeMstat v).params = s.params := rfl
@[simp] theorem State.writeMstat_pf (s : State) (v : BitVec 7) : (s.writeMstat v).pf = s.pf := rfl
@[simp] theorem State.writeMstat_inputs (s : State) (v : BitVec 7) : (s.writeMstat v).inputs = s.inputs := rfl
@[simp] theorem State.writeMstat_outputs (s : State) (v : BitVec 7) : (s.writeMstat v).outputs = s.outputs := rfl
@[simp] theorem State.writeMstat_redirect (s : State) (v : BitVec 7) : (s.writeMstat v).redirect = s.redirect := rfl
@[simp] theorem State.writeMstat_tick (s : State) (v : BitVec 7) : (s.writeMstat v).tick = s.tick := rfl

@[simp] theorem State.writeAstat_data (s : State) (v : BitVec 9) : (s.writeAstat v).data = s.data := rfl
@[simp] theorem State.writeAstat_dags (s : State) (v : BitVec 9) : (s.writeAstat v).dags = s.dags := rfl
@[simp] theorem State.writeAstat_px (s : State) (v : BitVec 9) : (s.writeAstat v).px = s.px := rfl
@[simp] theorem State.writeAstat_dmpg1 (s : State) (v : BitVec 9) : (s.writeAstat v).dmpg1 = s.dmpg1 := rfl
@[simp] theorem State.writeAstat_dmpg2 (s : State) (v : BitVec 9) : (s.writeAstat v).dmpg2 = s.dmpg2 := rfl
@[simp] theorem State.writeAstat_iopg (s : State) (v : BitVec 9) : (s.writeAstat v).iopg = s.iopg := rfl
@[simp] theorem State.writeAstat_ijpg (s : State) (v : BitVec 9) : (s.writeAstat v).ijpg = s.ijpg := rfl
@[simp] theorem State.writeAstat_pc (s : State) (v : BitVec 9) : (s.writeAstat v).pc = s.pc := rfl
@[simp] theorem State.writeAstat_astat (s : State) (v : BitVec 9) : (s.writeAstat v).astat = v := rfl
@[simp] theorem State.writeAstat_mstat (s : State) (v : BitVec 9) : (s.writeAstat v).mstat = s.mstat := rfl
@[simp] theorem State.writeAstat_sov (s : State) (v : BitVec 9) : (s.writeAstat v).sov = s.sov := rfl
@[simp] theorem State.writeAstat_imask (s : State) (v : BitVec 9) : (s.writeAstat v).imask = s.imask := rfl
@[simp] theorem State.writeAstat_irptl (s : State) (v : BitVec 9) : (s.writeAstat v).irptl = s.irptl := rfl
@[simp] theorem State.writeAstat_icntl (s : State) (v : BitVec 9) : (s.writeAstat v).icntl = s.icntl := rfl
@[simp] theorem State.writeAstat_cntr (s : State) (v : BitVec 9) : (s.writeAstat v).cntr = s.cntr := rfl
@[simp] theorem State.writeAstat_ccode (s : State) (v : BitVec 9) : (s.writeAstat v).ccode = s.ccode := rfl
@[simp] theorem State.writeAstat_stacka (s : State) (v : BitVec 9) : (s.writeAstat v).stacka = s.stacka := rfl
@[simp] theorem State.writeAstat_stackp (s : State) (v : BitVec 9) : (s.writeAstat v).stackp = s.stackp := rfl
@[simp] theorem State.writeAstat_lpstacka (s : State) (v : BitVec 9) : (s.writeAstat v).lpstacka = s.lpstacka := rfl
@[simp] theorem State.writeAstat_lpstackp (s : State) (v : BitVec 9) : (s.writeAstat v).lpstackp = s.lpstackp := rfl
@[simp] theorem State.writeAstat_pcStack (s : State) (v : BitVec 9) : (s.writeAstat v).pcStack = s.pcStack := rfl
@[simp] theorem State.writeAstat_loopStack (s : State) (v : BitVec 9) : (s.writeAstat v).loopStack = s.loopStack := rfl
@[simp] theorem State.writeAstat_statusStack (s : State) (v : BitVec 9) : (s.writeAstat v).statusStack = s.statusStack := rfl
@[simp] theorem State.writeAstat_dbpend (s : State) (v : BitVec 9) : (s.writeAstat v).dbpend = s.dbpend := rfl
@[simp] theorem State.writeAstat_idle (s : State) (v : BitVec 9) : (s.writeAstat v).idle = s.idle := rfl
@[simp] theorem State.writeAstat_inService (s : State) (v : BitVec 9) : (s.writeAstat v).inService = s.inService := rfl
@[simp] theorem State.writeAstat_windows (s : State) (v : BitVec 9) : (s.writeAstat v).windows = { s.windows with astat := s.windows.astat.write s.astat 1 } := rfl
@[simp] theorem State.writeAstat_mem (s : State) (v : BitVec 9) : (s.writeAstat v).mem = s.mem := rfl
@[simp] theorem State.writeAstat_stale (s : State) (v : BitVec 9) : (s.writeAstat v).stale = s.stale := rfl
@[simp] theorem State.writeAstat_params (s : State) (v : BitVec 9) : (s.writeAstat v).params = s.params := rfl
@[simp] theorem State.writeAstat_pf (s : State) (v : BitVec 9) : (s.writeAstat v).pf = s.pf := rfl
@[simp] theorem State.writeAstat_inputs (s : State) (v : BitVec 9) : (s.writeAstat v).inputs = s.inputs := rfl
@[simp] theorem State.writeAstat_outputs (s : State) (v : BitVec 9) : (s.writeAstat v).outputs = s.outputs := rfl
@[simp] theorem State.writeAstat_redirect (s : State) (v : BitVec 9) : (s.writeAstat v).redirect = s.redirect := rfl
@[simp] theorem State.writeAstat_tick (s : State) (v : BitVec 9) : (s.writeAstat v).tick = s.tick := rfl

@[simp] theorem State.writeIcntl_data (s : State) (v : Word) : (s.writeIcntl v).data = s.data := rfl
@[simp] theorem State.writeIcntl_dags (s : State) (v : Word) : (s.writeIcntl v).dags = s.dags := rfl
@[simp] theorem State.writeIcntl_px (s : State) (v : Word) : (s.writeIcntl v).px = s.px := rfl
@[simp] theorem State.writeIcntl_dmpg1 (s : State) (v : Word) : (s.writeIcntl v).dmpg1 = s.dmpg1 := rfl
@[simp] theorem State.writeIcntl_dmpg2 (s : State) (v : Word) : (s.writeIcntl v).dmpg2 = s.dmpg2 := rfl
@[simp] theorem State.writeIcntl_iopg (s : State) (v : Word) : (s.writeIcntl v).iopg = s.iopg := rfl
@[simp] theorem State.writeIcntl_ijpg (s : State) (v : Word) : (s.writeIcntl v).ijpg = s.ijpg := rfl
@[simp] theorem State.writeIcntl_pc (s : State) (v : Word) : (s.writeIcntl v).pc = s.pc := rfl
@[simp] theorem State.writeIcntl_astat (s : State) (v : Word) : (s.writeIcntl v).astat = s.astat := rfl
@[simp] theorem State.writeIcntl_mstat (s : State) (v : Word) : (s.writeIcntl v).mstat = s.mstat := rfl
@[simp] theorem State.writeIcntl_sov (s : State) (v : Word) : (s.writeIcntl v).sov = s.sov := rfl
@[simp] theorem State.writeIcntl_imask (s : State) (v : Word) : (s.writeIcntl v).imask = s.imask := rfl
@[simp] theorem State.writeIcntl_icntl (s : State) (v : Word) : (s.writeIcntl v).icntl = v := rfl
@[simp] theorem State.writeIcntl_cntr (s : State) (v : Word) : (s.writeIcntl v).cntr = s.cntr := rfl
@[simp] theorem State.writeIcntl_ccode (s : State) (v : Word) : (s.writeIcntl v).ccode = s.ccode := rfl
@[simp] theorem State.writeIcntl_stacka (s : State) (v : Word) : (s.writeIcntl v).stacka = s.stacka := rfl
@[simp] theorem State.writeIcntl_stackp (s : State) (v : Word) : (s.writeIcntl v).stackp = s.stackp := rfl
@[simp] theorem State.writeIcntl_lpstacka (s : State) (v : Word) : (s.writeIcntl v).lpstacka = s.lpstacka := rfl
@[simp] theorem State.writeIcntl_lpstackp (s : State) (v : Word) : (s.writeIcntl v).lpstackp = s.lpstackp := rfl
@[simp] theorem State.writeIcntl_pcStack (s : State) (v : Word) : (s.writeIcntl v).pcStack = s.pcStack := rfl
@[simp] theorem State.writeIcntl_loopStack (s : State) (v : Word) : (s.writeIcntl v).loopStack = s.loopStack := rfl
@[simp] theorem State.writeIcntl_statusStack (s : State) (v : Word) : (s.writeIcntl v).statusStack = s.statusStack := rfl
@[simp] theorem State.writeIcntl_dbpend (s : State) (v : Word) : (s.writeIcntl v).dbpend = s.dbpend := rfl
@[simp] theorem State.writeIcntl_idle (s : State) (v : Word) : (s.writeIcntl v).idle = s.idle := rfl
@[simp] theorem State.writeIcntl_inService (s : State) (v : Word) : (s.writeIcntl v).inService = s.inService := rfl
@[simp] theorem State.writeIcntl_windows (s : State) (v : Word) : (s.writeIcntl v).windows = { s.windows with icntl := s.windows.icntl.write s.icntl 1 } := rfl
@[simp] theorem State.writeIcntl_mem (s : State) (v : Word) : (s.writeIcntl v).mem = s.mem := rfl
@[simp] theorem State.writeIcntl_stale (s : State) (v : Word) : (s.writeIcntl v).stale = s.stale := rfl
@[simp] theorem State.writeIcntl_params (s : State) (v : Word) : (s.writeIcntl v).params = s.params := rfl
@[simp] theorem State.writeIcntl_pf (s : State) (v : Word) : (s.writeIcntl v).pf = s.pf := rfl
@[simp] theorem State.writeIcntl_inputs (s : State) (v : Word) : (s.writeIcntl v).inputs = s.inputs := rfl
@[simp] theorem State.writeIcntl_outputs (s : State) (v : Word) : (s.writeIcntl v).outputs = s.outputs := rfl
@[simp] theorem State.writeIcntl_redirect (s : State) (v : Word) : (s.writeIcntl v).redirect = s.redirect := rfl
@[simp] theorem State.writeIcntl_tick (s : State) (v : Word) : (s.writeIcntl v).tick = s.tick := rfl

@[simp] theorem State.writeImask_data (s : State) (v : Word) : (s.writeImask v).data = s.data := rfl
@[simp] theorem State.writeImask_dags (s : State) (v : Word) : (s.writeImask v).dags = s.dags := rfl
@[simp] theorem State.writeImask_px (s : State) (v : Word) : (s.writeImask v).px = s.px := rfl
@[simp] theorem State.writeImask_dmpg1 (s : State) (v : Word) : (s.writeImask v).dmpg1 = s.dmpg1 := rfl
@[simp] theorem State.writeImask_dmpg2 (s : State) (v : Word) : (s.writeImask v).dmpg2 = s.dmpg2 := rfl
@[simp] theorem State.writeImask_iopg (s : State) (v : Word) : (s.writeImask v).iopg = s.iopg := rfl
@[simp] theorem State.writeImask_ijpg (s : State) (v : Word) : (s.writeImask v).ijpg = s.ijpg := rfl
@[simp] theorem State.writeImask_pc (s : State) (v : Word) : (s.writeImask v).pc = s.pc := rfl
@[simp] theorem State.writeImask_astat (s : State) (v : Word) : (s.writeImask v).astat = s.astat := rfl
@[simp] theorem State.writeImask_mstat (s : State) (v : Word) : (s.writeImask v).mstat = s.mstat := rfl
@[simp] theorem State.writeImask_sov (s : State) (v : Word) : (s.writeImask v).sov = s.sov := rfl
@[simp] theorem State.writeImask_imask (s : State) (v : Word) : (s.writeImask v).imask = v := rfl
@[simp] theorem State.writeImask_irptl (s : State) (v : Word) : (s.writeImask v).irptl = s.irptl := rfl
@[simp] theorem State.writeImask_icntl (s : State) (v : Word) : (s.writeImask v).icntl = s.icntl := rfl
@[simp] theorem State.writeImask_cntr (s : State) (v : Word) : (s.writeImask v).cntr = s.cntr := rfl
@[simp] theorem State.writeImask_ccode (s : State) (v : Word) : (s.writeImask v).ccode = s.ccode := rfl
@[simp] theorem State.writeImask_stacka (s : State) (v : Word) : (s.writeImask v).stacka = s.stacka := rfl
@[simp] theorem State.writeImask_stackp (s : State) (v : Word) : (s.writeImask v).stackp = s.stackp := rfl
@[simp] theorem State.writeImask_lpstacka (s : State) (v : Word) : (s.writeImask v).lpstacka = s.lpstacka := rfl
@[simp] theorem State.writeImask_lpstackp (s : State) (v : Word) : (s.writeImask v).lpstackp = s.lpstackp := rfl
@[simp] theorem State.writeImask_pcStack (s : State) (v : Word) : (s.writeImask v).pcStack = s.pcStack := rfl
@[simp] theorem State.writeImask_loopStack (s : State) (v : Word) : (s.writeImask v).loopStack = s.loopStack := rfl
@[simp] theorem State.writeImask_statusStack (s : State) (v : Word) : (s.writeImask v).statusStack = s.statusStack := rfl
@[simp] theorem State.writeImask_dbpend (s : State) (v : Word) : (s.writeImask v).dbpend = s.dbpend := rfl
@[simp] theorem State.writeImask_idle (s : State) (v : Word) : (s.writeImask v).idle = s.idle := rfl
@[simp] theorem State.writeImask_inService (s : State) (v : Word) : (s.writeImask v).inService = s.inService := rfl
@[simp] theorem State.writeImask_windows (s : State) (v : Word) : (s.writeImask v).windows = { s.windows with imask := s.windows.imask.write s.imask 1 } := rfl
@[simp] theorem State.writeImask_mem (s : State) (v : Word) : (s.writeImask v).mem = s.mem := rfl
@[simp] theorem State.writeImask_stale (s : State) (v : Word) : (s.writeImask v).stale = s.stale := rfl
@[simp] theorem State.writeImask_params (s : State) (v : Word) : (s.writeImask v).params = s.params := rfl
@[simp] theorem State.writeImask_pf (s : State) (v : Word) : (s.writeImask v).pf = s.pf := rfl
@[simp] theorem State.writeImask_inputs (s : State) (v : Word) : (s.writeImask v).inputs = s.inputs := rfl
@[simp] theorem State.writeImask_outputs (s : State) (v : Word) : (s.writeImask v).outputs = s.outputs := rfl
@[simp] theorem State.writeImask_redirect (s : State) (v : Word) : (s.writeImask v).redirect = s.redirect := rfl
@[simp] theorem State.writeImask_tick (s : State) (v : Word) : (s.writeImask v).tick = s.tick := rfl

@[simp] theorem State.writeCntr_data (s : State) (v : Word) : (s.writeCntr v).data = s.data := rfl
@[simp] theorem State.writeCntr_dags (s : State) (v : Word) : (s.writeCntr v).dags = s.dags := rfl
@[simp] theorem State.writeCntr_px (s : State) (v : Word) : (s.writeCntr v).px = s.px := rfl
@[simp] theorem State.writeCntr_dmpg1 (s : State) (v : Word) : (s.writeCntr v).dmpg1 = s.dmpg1 := rfl
@[simp] theorem State.writeCntr_dmpg2 (s : State) (v : Word) : (s.writeCntr v).dmpg2 = s.dmpg2 := rfl
@[simp] theorem State.writeCntr_iopg (s : State) (v : Word) : (s.writeCntr v).iopg = s.iopg := rfl
@[simp] theorem State.writeCntr_ijpg (s : State) (v : Word) : (s.writeCntr v).ijpg = s.ijpg := rfl
@[simp] theorem State.writeCntr_pc (s : State) (v : Word) : (s.writeCntr v).pc = s.pc := rfl
@[simp] theorem State.writeCntr_astat (s : State) (v : Word) : (s.writeCntr v).astat = s.astat := rfl
@[simp] theorem State.writeCntr_mstat (s : State) (v : Word) : (s.writeCntr v).mstat = s.mstat := rfl
@[simp] theorem State.writeCntr_sov (s : State) (v : Word) : (s.writeCntr v).sov = s.sov := rfl
@[simp] theorem State.writeCntr_imask (s : State) (v : Word) : (s.writeCntr v).imask = s.imask := rfl
@[simp] theorem State.writeCntr_irptl (s : State) (v : Word) : (s.writeCntr v).irptl = s.irptl := rfl
@[simp] theorem State.writeCntr_icntl (s : State) (v : Word) : (s.writeCntr v).icntl = s.icntl := rfl
@[simp] theorem State.writeCntr_cntr (s : State) (v : Word) : (s.writeCntr v).cntr = v := rfl
@[simp] theorem State.writeCntr_ccode (s : State) (v : Word) : (s.writeCntr v).ccode = s.ccode := rfl
@[simp] theorem State.writeCntr_stacka (s : State) (v : Word) : (s.writeCntr v).stacka = s.stacka := rfl
@[simp] theorem State.writeCntr_stackp (s : State) (v : Word) : (s.writeCntr v).stackp = s.stackp := rfl
@[simp] theorem State.writeCntr_lpstacka (s : State) (v : Word) : (s.writeCntr v).lpstacka = s.lpstacka := rfl
@[simp] theorem State.writeCntr_lpstackp (s : State) (v : Word) : (s.writeCntr v).lpstackp = s.lpstackp := rfl
@[simp] theorem State.writeCntr_pcStack (s : State) (v : Word) : (s.writeCntr v).pcStack = s.pcStack := rfl
@[simp] theorem State.writeCntr_loopStack (s : State) (v : Word) : (s.writeCntr v).loopStack = s.loopStack := rfl
@[simp] theorem State.writeCntr_statusStack (s : State) (v : Word) : (s.writeCntr v).statusStack = s.statusStack := rfl
@[simp] theorem State.writeCntr_dbpend (s : State) (v : Word) : (s.writeCntr v).dbpend = s.dbpend := rfl
@[simp] theorem State.writeCntr_idle (s : State) (v : Word) : (s.writeCntr v).idle = s.idle := rfl
@[simp] theorem State.writeCntr_inService (s : State) (v : Word) : (s.writeCntr v).inService = s.inService := rfl
@[simp] theorem State.writeCntr_windows (s : State) (v : Word) : (s.writeCntr v).windows = { s.windows with cntr := s.windows.cntr.write s.cntr 1 } := rfl
@[simp] theorem State.writeCntr_mem (s : State) (v : Word) : (s.writeCntr v).mem = s.mem := rfl
@[simp] theorem State.writeCntr_stale (s : State) (v : Word) : (s.writeCntr v).stale = s.stale := rfl
@[simp] theorem State.writeCntr_params (s : State) (v : Word) : (s.writeCntr v).params = s.params := rfl
@[simp] theorem State.writeCntr_pf (s : State) (v : Word) : (s.writeCntr v).pf = s.pf := rfl
@[simp] theorem State.writeCntr_inputs (s : State) (v : Word) : (s.writeCntr v).inputs = s.inputs := rfl
@[simp] theorem State.writeCntr_outputs (s : State) (v : Word) : (s.writeCntr v).outputs = s.outputs := rfl
@[simp] theorem State.writeCntr_redirect (s : State) (v : Word) : (s.writeCntr v).redirect = s.redirect := rfl
@[simp] theorem State.writeCntr_tick (s : State) (v : Word) : (s.writeCntr v).tick = s.tick := rfl

@[simp] theorem State.writeCcode_data (s : State) (v : BitVec 4) : (s.writeCcode v).data = s.data := rfl
@[simp] theorem State.writeCcode_dags (s : State) (v : BitVec 4) : (s.writeCcode v).dags = s.dags := rfl
@[simp] theorem State.writeCcode_px (s : State) (v : BitVec 4) : (s.writeCcode v).px = s.px := rfl
@[simp] theorem State.writeCcode_dmpg1 (s : State) (v : BitVec 4) : (s.writeCcode v).dmpg1 = s.dmpg1 := rfl
@[simp] theorem State.writeCcode_dmpg2 (s : State) (v : BitVec 4) : (s.writeCcode v).dmpg2 = s.dmpg2 := rfl
@[simp] theorem State.writeCcode_iopg (s : State) (v : BitVec 4) : (s.writeCcode v).iopg = s.iopg := rfl
@[simp] theorem State.writeCcode_ijpg (s : State) (v : BitVec 4) : (s.writeCcode v).ijpg = s.ijpg := rfl
@[simp] theorem State.writeCcode_pc (s : State) (v : BitVec 4) : (s.writeCcode v).pc = s.pc := rfl
@[simp] theorem State.writeCcode_astat (s : State) (v : BitVec 4) : (s.writeCcode v).astat = s.astat := rfl
@[simp] theorem State.writeCcode_mstat (s : State) (v : BitVec 4) : (s.writeCcode v).mstat = s.mstat := rfl
@[simp] theorem State.writeCcode_sov (s : State) (v : BitVec 4) : (s.writeCcode v).sov = s.sov := rfl
@[simp] theorem State.writeCcode_imask (s : State) (v : BitVec 4) : (s.writeCcode v).imask = s.imask := rfl
@[simp] theorem State.writeCcode_irptl (s : State) (v : BitVec 4) : (s.writeCcode v).irptl = s.irptl := rfl
@[simp] theorem State.writeCcode_icntl (s : State) (v : BitVec 4) : (s.writeCcode v).icntl = s.icntl := rfl
@[simp] theorem State.writeCcode_cntr (s : State) (v : BitVec 4) : (s.writeCcode v).cntr = s.cntr := rfl
@[simp] theorem State.writeCcode_ccode (s : State) (v : BitVec 4) : (s.writeCcode v).ccode = v := rfl
@[simp] theorem State.writeCcode_stacka (s : State) (v : BitVec 4) : (s.writeCcode v).stacka = s.stacka := rfl
@[simp] theorem State.writeCcode_stackp (s : State) (v : BitVec 4) : (s.writeCcode v).stackp = s.stackp := rfl
@[simp] theorem State.writeCcode_lpstacka (s : State) (v : BitVec 4) : (s.writeCcode v).lpstacka = s.lpstacka := rfl
@[simp] theorem State.writeCcode_lpstackp (s : State) (v : BitVec 4) : (s.writeCcode v).lpstackp = s.lpstackp := rfl
@[simp] theorem State.writeCcode_pcStack (s : State) (v : BitVec 4) : (s.writeCcode v).pcStack = s.pcStack := rfl
@[simp] theorem State.writeCcode_loopStack (s : State) (v : BitVec 4) : (s.writeCcode v).loopStack = s.loopStack := rfl
@[simp] theorem State.writeCcode_statusStack (s : State) (v : BitVec 4) : (s.writeCcode v).statusStack = s.statusStack := rfl
@[simp] theorem State.writeCcode_dbpend (s : State) (v : BitVec 4) : (s.writeCcode v).dbpend = s.dbpend := rfl
@[simp] theorem State.writeCcode_idle (s : State) (v : BitVec 4) : (s.writeCcode v).idle = s.idle := rfl
@[simp] theorem State.writeCcode_inService (s : State) (v : BitVec 4) : (s.writeCcode v).inService = s.inService := rfl
@[simp] theorem State.writeCcode_windows (s : State) (v : BitVec 4) : (s.writeCcode v).windows = { s.windows with ccode := s.windows.ccode.write s.ccode 1 } := rfl
@[simp] theorem State.writeCcode_mem (s : State) (v : BitVec 4) : (s.writeCcode v).mem = s.mem := rfl
@[simp] theorem State.writeCcode_stale (s : State) (v : BitVec 4) : (s.writeCcode v).stale = s.stale := rfl
@[simp] theorem State.writeCcode_params (s : State) (v : BitVec 4) : (s.writeCcode v).params = s.params := rfl
@[simp] theorem State.writeCcode_pf (s : State) (v : BitVec 4) : (s.writeCcode v).pf = s.pf := rfl
@[simp] theorem State.writeCcode_inputs (s : State) (v : BitVec 4) : (s.writeCcode v).inputs = s.inputs := rfl
@[simp] theorem State.writeCcode_outputs (s : State) (v : BitVec 4) : (s.writeCcode v).outputs = s.outputs := rfl
@[simp] theorem State.writeCcode_redirect (s : State) (v : BitVec 4) : (s.writeCcode v).redirect = s.redirect := rfl
@[simp] theorem State.writeCcode_tick (s : State) (v : BitVec 4) : (s.writeCcode v).tick = s.tick := rfl

@[simp] theorem State.latchRequests_data (s : State) (q : Word) : (s.latchRequests q).data = s.data := rfl
@[simp] theorem State.latchRequests_dags (s : State) (q : Word) : (s.latchRequests q).dags = s.dags := rfl
@[simp] theorem State.latchRequests_px (s : State) (q : Word) : (s.latchRequests q).px = s.px := rfl
@[simp] theorem State.latchRequests_dmpg1 (s : State) (q : Word) : (s.latchRequests q).dmpg1 = s.dmpg1 := rfl
@[simp] theorem State.latchRequests_dmpg2 (s : State) (q : Word) : (s.latchRequests q).dmpg2 = s.dmpg2 := rfl
@[simp] theorem State.latchRequests_iopg (s : State) (q : Word) : (s.latchRequests q).iopg = s.iopg := rfl
@[simp] theorem State.latchRequests_ijpg (s : State) (q : Word) : (s.latchRequests q).ijpg = s.ijpg := rfl
@[simp] theorem State.latchRequests_pc (s : State) (q : Word) : (s.latchRequests q).pc = s.pc := rfl
@[simp] theorem State.latchRequests_astat (s : State) (q : Word) : (s.latchRequests q).astat = s.astat := rfl
@[simp] theorem State.latchRequests_mstat (s : State) (q : Word) : (s.latchRequests q).mstat = s.mstat := rfl
@[simp] theorem State.latchRequests_sov (s : State) (q : Word) : (s.latchRequests q).sov = s.sov := rfl
@[simp] theorem State.latchRequests_imask (s : State) (q : Word) : (s.latchRequests q).imask = s.imask := rfl
@[simp] theorem State.latchRequests_irptl (s : State) (q : Word) : (s.latchRequests q).irptl = s.irptl ||| (q &&& if s.icntl.getLsbD 5 then 0xFFFF#16 else 0x0001#16) := rfl
@[simp] theorem State.latchRequests_icntl (s : State) (q : Word) : (s.latchRequests q).icntl = s.icntl := rfl
@[simp] theorem State.latchRequests_cntr (s : State) (q : Word) : (s.latchRequests q).cntr = s.cntr := rfl
@[simp] theorem State.latchRequests_ccode (s : State) (q : Word) : (s.latchRequests q).ccode = s.ccode := rfl
@[simp] theorem State.latchRequests_stacka (s : State) (q : Word) : (s.latchRequests q).stacka = s.stacka := rfl
@[simp] theorem State.latchRequests_stackp (s : State) (q : Word) : (s.latchRequests q).stackp = s.stackp := rfl
@[simp] theorem State.latchRequests_lpstacka (s : State) (q : Word) : (s.latchRequests q).lpstacka = s.lpstacka := rfl
@[simp] theorem State.latchRequests_lpstackp (s : State) (q : Word) : (s.latchRequests q).lpstackp = s.lpstackp := rfl
@[simp] theorem State.latchRequests_pcStack (s : State) (q : Word) : (s.latchRequests q).pcStack = s.pcStack := rfl
@[simp] theorem State.latchRequests_loopStack (s : State) (q : Word) : (s.latchRequests q).loopStack = s.loopStack := rfl
@[simp] theorem State.latchRequests_statusStack (s : State) (q : Word) : (s.latchRequests q).statusStack = s.statusStack := rfl
@[simp] theorem State.latchRequests_dbpend (s : State) (q : Word) : (s.latchRequests q).dbpend = s.dbpend := rfl
@[simp] theorem State.latchRequests_idle (s : State) (q : Word) : (s.latchRequests q).idle = s.idle := rfl
@[simp] theorem State.latchRequests_inService (s : State) (q : Word) : (s.latchRequests q).inService = s.inService := rfl
@[simp] theorem State.latchRequests_windows (s : State) (q : Word) : (s.latchRequests q).windows = s.windows := rfl
@[simp] theorem State.latchRequests_mem (s : State) (q : Word) : (s.latchRequests q).mem = s.mem := rfl
@[simp] theorem State.latchRequests_stale (s : State) (q : Word) : (s.latchRequests q).stale = s.stale := rfl
@[simp] theorem State.latchRequests_params (s : State) (q : Word) : (s.latchRequests q).params = s.params := rfl
@[simp] theorem State.latchRequests_pf (s : State) (q : Word) : (s.latchRequests q).pf = s.pf := rfl
@[simp] theorem State.latchRequests_inputs (s : State) (q : Word) : (s.latchRequests q).inputs = s.inputs := rfl
@[simp] theorem State.latchRequests_outputs (s : State) (q : Word) : (s.latchRequests q).outputs = s.outputs := rfl
@[simp] theorem State.latchRequests_redirect (s : State) (q : Word) : (s.latchRequests q).redirect = s.redirect := rfl
@[simp] theorem State.latchRequests_tick (s : State) (q : Word) : (s.latchRequests q).tick = s.tick := rfl

@[simp] theorem State.age_data (s : State) : (s.age).data = s.data := rfl
@[simp] theorem State.age_dags (s : State) : (s.age).dags = s.dags := rfl
@[simp] theorem State.age_px (s : State) : (s.age).px = s.px := rfl
@[simp] theorem State.age_dmpg1 (s : State) : (s.age).dmpg1 = s.dmpg1 := rfl
@[simp] theorem State.age_dmpg2 (s : State) : (s.age).dmpg2 = s.dmpg2 := rfl
@[simp] theorem State.age_iopg (s : State) : (s.age).iopg = s.iopg := rfl
@[simp] theorem State.age_ijpg (s : State) : (s.age).ijpg = s.ijpg := rfl
@[simp] theorem State.age_pc (s : State) : (s.age).pc = s.pc := rfl
@[simp] theorem State.age_astat (s : State) : (s.age).astat = s.astat := rfl
@[simp] theorem State.age_mstat (s : State) : (s.age).mstat = s.mstat := rfl
@[simp] theorem State.age_sov (s : State) : (s.age).sov = s.sov := rfl
@[simp] theorem State.age_imask (s : State) : (s.age).imask = s.imask := rfl
@[simp] theorem State.age_irptl (s : State) : (s.age).irptl = s.irptl := rfl
@[simp] theorem State.age_icntl (s : State) : (s.age).icntl = s.icntl := rfl
@[simp] theorem State.age_cntr (s : State) : (s.age).cntr = s.cntr := rfl
@[simp] theorem State.age_ccode (s : State) : (s.age).ccode = s.ccode := rfl
@[simp] theorem State.age_stacka (s : State) : (s.age).stacka = s.stacka := rfl
@[simp] theorem State.age_stackp (s : State) : (s.age).stackp = s.stackp := rfl
@[simp] theorem State.age_lpstacka (s : State) : (s.age).lpstacka = s.lpstacka := rfl
@[simp] theorem State.age_lpstackp (s : State) : (s.age).lpstackp = s.lpstackp := rfl
@[simp] theorem State.age_pcStack (s : State) : (s.age).pcStack = s.pcStack := rfl
@[simp] theorem State.age_loopStack (s : State) : (s.age).loopStack = s.loopStack := rfl
@[simp] theorem State.age_statusStack (s : State) : (s.age).statusStack = s.statusStack := rfl
@[simp] theorem State.age_dbpend (s : State) : (s.age).dbpend = s.dbpend := rfl
@[simp] theorem State.age_idle (s : State) : (s.age).idle = s.idle := rfl
@[simp] theorem State.age_inService (s : State) : (s.age).inService = s.inService := rfl
@[simp] theorem State.age_windows (s : State) : (s.age).windows = s.windows.age := rfl
@[simp] theorem State.age_mem (s : State) : (s.age).mem = s.mem := rfl
@[simp] theorem State.age_stale (s : State) : (s.age).stale = ageStale s.stale := rfl
@[simp] theorem State.age_params (s : State) : (s.age).params = s.params := rfl
@[simp] theorem State.age_pf (s : State) : (s.age).pf = s.pf := rfl
@[simp] theorem State.age_inputs (s : State) : (s.age).inputs = s.inputs := rfl
@[simp] theorem State.age_outputs (s : State) : (s.age).outputs = s.outputs := rfl
@[simp] theorem State.age_redirect (s : State) : (s.age).redirect = s.redirect := rfl
@[simp] theorem State.age_tick (s : State) : (s.age).tick = s.tick + 1 := rfl

end Sys2Proof.Machine
end

