-- ==== Sys2Proof/Laws/Ops.lean ====
section
/-! SUPPORT. For each shared operation, once, all it can do: what it changes (a `_frame` lemma: the state with the changed
fields replaced), and what a use sees when no effect-latency window is open (the `_closed` lemmas). -/

namespace Sys2Proof.Machine

/-! ## Uses with every window closed (R560) -/

section Closed

variable {s : State} (h : s.windows = Windows.closed)
include h

theorem State.secReg_closed (r : Role) : s.secReg r = s.mstat.getLsbD 0 := by simp only [secReg, h]; rfl
theorem State.bitRev_closed : s.bitRev = s.mstat.getLsbD 1 := by simp only [bitRev, h]; rfl
theorem State.arSat_closed : s.arSat = s.mstat.getLsbD 3 := by simp only [arSat, h]; rfl
theorem State.mMode_closed : s.mMode = s.mstat.getLsbD 4 := by simp only [mMode, h]; rfl
theorem State.secDag_closed (g : Dag) (r : DagRole) : s.secDag g r = s.mstat.getLsbD 6 := by simp only [secDag, h]; rfl
theorem State.astatEff_closed (u : AstatUse) : s.astatEff u = s.astat := by simp only [astatEff, h]; rfl
theorem State.ccodeEff_closed : s.ccodeEff = s.ccode := by simp only [ccodeEff, h]; rfl
theorem State.cntrEff_closed : s.cntrEff = s.cntr := by simp only [cntrEff, h]; rfl
theorem State.icntlEff_closed (u : IcntlUse) : s.icntlEff u = s.icntl := by simp only [icntlEff, h]; rfl
theorem State.imaskEff_closed (n : Nat) : s.imaskEff n = s.imask := by simp only [imaskEff, h]; rfl
theorem State.sstatRead_closed : s.sstatRead = s.sstat := by simp only [sstatRead, h]; rfl

theorem State.dataAt_closed (r : Role) : s.dataAt r = s.data.get (s.mstat.getLsbD 0) := by
  rw [dataAt, secReg_closed h]

theorem State.dagAt_closed (g : Dag) (r : DagRole) : s.dagAt g r = (s.dags.get (s.mstat.getLsbD 6)).get g := by
  rw [dagAt, secDag_closed h]

end Closed

/-- What a use sees is the architectural value or one of the earlier ones. -/
theorem choose_mem {α : Type} (cur : α) (olds : List α) (k : Nat) : choose cur olds k ∈ cur :: olds := by
  cases olds with
  | nil => exact List.mem_singleton.mpr rfl
  | cons o os =>
    simp only [choose]
    have hk : k % (os.length + 2) < (cur :: o :: os).length := Nat.mod_lt _ (by omega)
    rw [List.getD_eq_getElem?_getD, List.getElem?_eq_getElem hk, Option.getD_some]
    exact List.getElem_mem _

theorem Window.see_mem {α : Type} (w : Window α) (cur : α) (tick : Nat) (site : Site) :
    w.see cur tick site ∈ cur :: w.olds :=
  choose_mem _ _ _

/-- With one earlier value, a use sees the architectural value or that one. -/
theorem choose_one {α : Type} (cur old : α) (k : Nat) : choose cur [old] k = old ∨ choose cur [old] k = cur := by
  have := choose_mem cur [old] k
  simp only [List.mem_cons, List.not_mem_nil, or_false] at this
  exact this.symm

/-! ## SSTAT as it is read (R562) -/

@[simp] theorem SstatWindow.since_lows (old bits : BitVec 8) (n : Nat) : (SstatWindow.since old bits n).lows = bits &&& ~~~old := rfl
@[simp] theorem SstatWindow.since_highs (old bits : BitVec 8) (n : Nat) : (SstatWindow.since old bits n).highs = bits &&& old := rfl
@[simp] theorem SstatWindow.since_left (old bits : BitVec 8) (n : Nat) : (SstatWindow.since old bits n).left = n := rfl

theorem State.sstatRead_of_left {s : State} (h : s.windows.sstat.left = 0) : s.sstatRead = s.sstat := by
  simp only [sstatRead, h, if_true]

/-- In a window that goes back to the value `old`, a read sees each bit of `bits` as it was or as it is, and every other
bit as it is. -/
theorem State.sstatRead_since {s : State} {old bits : BitVec 8} {n : Nat} (h : s.windows.sstat = .since old bits n) (b : Nat) :
    (s.sstatRead.getLsbD b = s.sstat.getLsbD b ∨ s.sstatRead.getLsbD b = old.getLsbD b) ∧
    (bits.getLsbD b = false → s.sstatRead.getLsbD b = s.sstat.getLsbD b) := by
  simp only [sstatRead, h, SstatWindow.since_lows, SstatWindow.since_highs, SstatWindow.since_left]
  split
  · exact ⟨.inl rfl, fun _ => rfl⟩
  by_cases hb : b < 8
  · generalize s.free 8 .sstat = o
    simp only [BitVec.getLsbD_or, BitVec.getLsbD_and, BitVec.getLsbD_not, hb]
    generalize s.sstat.getLsbD b = x
    generalize old.getLsbD b = y
    generalize o.getLsbD b = z
    generalize bits.getLsbD b = w
    revert x y z w
    decide
  · simp [BitVec.getLsbD_of_ge _ b (Nat.le_of_not_lt hb)]

/-- With no window open, an interrupt entry lets the routine's first instruction read SSTAT as it was. -/
theorem State.entrySstat_closed {s : State} (h : s.windows = Windows.closed) : s.entrySstat = .since s.sstat 0xFF 1 := by
  simp only [entrySstat, h]
  rfl

/-! ## Register sets -/

@[simp] theorem Banked.get_set_same {α : Type} (b : Banked α) (k : Bool) (v : α) : (b.set k v).get k = v := by
  cases k <;> rfl

@[simp] theorem Banked.get_set_other {α : Type} (b : Banked α) (k : Bool) (v : α) : (b.set k v).get (!k) = b.get (!k) := by
  cases k <;> rfl

@[simp] theorem Banked.get_set_other' {α : Type} (b : Banked α) (k : Bool) (v : α) : (b.set (!k) v).get k = b.get k := by
  cases k <;> rfl

@[simp] theorem Banked.set_set {α : Type} (b : Banked α) (k : Bool) (v w : α) : (b.set k v).set k w = b.set k w := by
  cases k <;> rfl

@[simp] theorem Banked.set_get {α : Type} (b : Banked α) (k : Bool) : b.set k (b.get k) = b := by
  cases k <;> rfl

@[simp] theorem DagBank.get_set_same (b : DagBank) (g : Dag) (r : DagRegs) : (b.set g r).get g = r := by
  cases g <;> rfl

theorem DagBank.get_set_ne (b : DagBank) {g h : Dag} (r : DagRegs) (hn : h ≠ g) : (b.set g r).get h = b.get h := by
  cases g <;> cases h <;> first | rfl | exact absurd rfl hn

@[simp] theorem DagBank.set_get (b : DagBank) (g : Dag) : b.set g (b.get g) = b := by
  cases g <;> rfl

@[simp] theorem Quad.get_set_same {α : Type} (q : Quad α) (n : Slot) (v : α) : (q.set n v).get n = v := by
  cases n <;> rfl

theorem Quad.get_set_ne {α : Type} (q : Quad α) {n k : Slot} (v : α) (hn : k ≠ n) : (q.set n v).get k = q.get k := by
  cases n <;> cases k <;> first | rfl | exact absurd rfl hn

@[simp] theorem DataRegs.get_set_same (r : DataRegs) (d : Dreg) (v : Word) : (r.set d v).get d = v := by
  cases d <;> rfl

theorem DataRegs.get_set_ne (r : DataRegs) {d e : Dreg} (v : Word) (hn : e ≠ d) : (r.set d v).get e = r.get e := by
  cases d <;> cases e <;> first | rfl | exact absurd rfl hn

@[simp] theorem DataRegs.set_af (r : DataRegs) (d : Dreg) (v : Word) : (r.set d v).af = r.af := by cases d <;> rfl
@[simp] theorem DataRegs.set_se (r : DataRegs) (d : Dreg) (v : Word) : (r.set d v).se = r.se := by cases d <;> rfl
@[simp] theorem DataRegs.set_sb (r : DataRegs) (d : Dreg) (v : Word) : (r.set d v).sb = r.sb := by cases d <;> rfl
@[simp] theorem DataRegs.load_af (r : DataRegs) (d : Dreg) (v : Word) : (r.load d v).af = r.af := by cases d <;> rfl
@[simp] theorem DataRegs.load_se (r : DataRegs) (d : Dreg) (v : Word) : (r.load d v).se = r.se := by cases d <;> rfl
@[simp] theorem DataRegs.load_sb (r : DataRegs) (d : Dreg) (v : Word) : (r.load d v).sb = r.sb := by cases d <;> rfl

/-- A load writes its register, whole. -/
@[simp] theorem DataRegs.load_get_same (r : DataRegs) (d : Dreg) (v : Word) : (r.load d v).get d = v := by
  cases d <;> rfl

/-- A load of MR1 or SR1 fills MR2 or SR2 with its sign and leaves the other registers alone (R371). -/
theorem DataRegs.load_get (r : DataRegs) (d e : Dreg) (v : Word) :
    (r.load d v).get e
      = if e = d then v else if (d = .mr1 ∧ e = .mr2) ∨ (d = .sr1 ∧ e = .sr2) then signFill v else r.get e := by
  cases d <;> cases e <;> rfl

/-! ## What each operation changes -/

theorem State.updData_frame (s : State) (r : Role) (f : DataRegs → DataRegs) :
    s.updData r f = { s with data := (s.updData r f).data } := rfl

theorem State.updDag_frame (s : State) (g : Dag) (r : DagRole) (f : DagRegs → DagRegs) :
    s.updDag g r f = { s with dags := (s.updDag g r f).dags } := rfl

theorem State.evalCond_frame (s : State) (c : Cond) : s.evalCond c = { s with cntr := (s.evalCond c).cntr } := by
  cases c <;> rfl

theorem State.levelRequest_frame (s : State) (u : IcntlUse) (d m : Nat) :
    s.levelRequest u d m = { s with irptl := (s.levelRequest u d m).irptl } := by
  unfold levelRequest
  split
  · split <;> rfl
  · rfl

theorem State.pcPush_frame (s : State) (v : Addr) :
    s.pcPush v = { s with pcStack := (s.pcPush v).pcStack, sov := (s.pcPush v).sov, irptl := (s.pcPush v).irptl } := by
  unfold pcPush
  split
  · rfl
  · rw [levelRequest_frame]

theorem State.pcDrop_frame (s : State) :
    s.pcDrop = { s with pcStack := s.pcDrop.pcStack, sov := s.pcDrop.sov, irptl := s.pcDrop.irptl } := by
  unfold pcDrop
  split
  · rfl
  · rw [levelRequest_frame]

theorem State.stsPush_frame (s : State) :
    s.stsPush = { s with statusStack := s.stsPush.statusStack, sov := s.stsPush.sov, irptl := s.stsPush.irptl } := by
  unfold stsPush
  split <;> rfl

theorem State.stsDrop_frame (s : State) :
    s.stsDrop = { s with statusStack := s.stsDrop.statusStack, sov := s.stsDrop.sov, irptl := s.stsDrop.irptl } := by
  unfold stsDrop
  split <;> rfl

theorem State.lpPush_frame (s : State) (e : LoopEntry) :
    s.lpPush e
      = { s with loopStack := (s.lpPush e).loopStack, sov := (s.lpPush e).sov, irptl := (s.lpPush e).irptl } := by
  unfold lpPush
  split <;> rfl

theorem State.popLoop_frame (s : State) :
    s.popLoop = { s with
      loopStack := s.popLoop.loopStack, stacka := s.popLoop.stacka, stackp := s.popLoop.stackp
      lpstacka := s.popLoop.lpstacka, lpstackp := s.popLoop.lpstackp, cntr := s.popLoop.cntr
      windows := { s.windows with cntr := s.windows.cntr.write s.cntr 1 } } := by
  unfold popLoop lpDrop
  cases s.loopStack <;> rfl

theorem State.branch_frame (s : State) (a : Addr) (db : Bool) :
    s.branch a db = { s with dbpend := (s.branch a db).dbpend, redirect := (s.branch a db).redirect } := by
  cases db <;> rfl

theorem State.putSr_frame (s : State) (o : Bool) (v : Acc40) :
    s.putSr o v = { s with data := (s.putSr o v).data, astat := (s.putSr o v).astat } := rfl

theorem State.aluOp_frame (s : State) (z : Option ResultReg) (f : AluFn) (x y : Word) :
    s.aluOp z f x y = { s with data := (s.aluOp z f x y).data, astat := (s.aluOp z f x y).astat } := by
  cases z <;> rfl

theorem State.macOp_frame (s : State) (w : Bool) (z : ResultReg) (op : MacOp) (fmt : MacFmt) (x y : Word) :
    s.macOp w z op fmt x y
      = { s with data := (s.macOp w z op fmt x y).data, astat := (s.macOp w z op fmt x y).astat } := by
  cases w <;> rfl

theorem State.satOp_frame (s : State) (z : ResultReg) : s.satOp z = { s with data := (s.satOp z).data } := by
  unfold satOp
  simp only
  split <;> rfl

theorem State.expHix_frame (s : State) (x : Word) :
    s.expHix x = { s with data := (s.expHix x).data, astat := (s.expHix x).astat } := by
  unfold expHix
  split <;> rfl

theorem State.expLo_frame (s : State) (x : Word) : s.expLo x = { s with data := (s.expLo x).data } := by
  unfold expLo
  split <;> rfl

theorem State.expAdj_frame (s : State) (x : Word) : s.expAdj x = { s with data := (s.expAdj x).data } := by
  unfold expAdj
  split <;> rfl

theorem State.shiftOp_frame (s : State) (f : ShiftFn) (x : Word) :
    s.shiftOp f x = { s with data := (s.shiftOp f x).data, astat := (s.shiftOp f x).astat } := by
  cases f
  case expHix => exact s.expHix_frame x
  case expLo => simp only [shiftOp]; rw [s.expLo_frame x]
  case expAdj => simp only [shiftOp]; rw [s.expAdj_frame x]
  all_goals rfl

theorem State.compute_frame (s : State) (w : Bool) (z : ResultReg) (f : Compute) :
    s.compute w z f = { s with data := (s.compute w z f).data, astat := (s.compute w z f).astat } := by
  rcases f with ⟨f, y, x⟩ | (yx | ⟨op, fmt, y, x⟩)
  · exact s.aluOp_frame _ f _ _
  · rfl
  · exact s.macOp_frame w z op fmt _ _

theorem State.clash_frame (s : State) (l : List Dreg) : s.clash l = { s with data := (s.clash l).data } := by
  induction l generalizing s with
  | nil => rfl
  | cons d ds ih => simp only [clash]; rw [ih]; rfl

theorem State.loadBeside_frame (s : State) (l : List Dreg) (d : Dreg) (v : Word) :
    s.loadBeside l d v = { s with data := (s.loadBeside l d v).data } := by
  simp only [loadBeside]
  rw [clash_frame]
  rfl

/-- A write of a core register can change the register files and the registers with a code, the windows, and nothing
else. -/
theorem State.writeReg_frame (s : State) (r : Reg) (v : Word) :
    let t := s.writeReg r v
    t = { s with
      data := t.data, dags := t.dags, px := t.px, dmpg1 := t.dmpg1, dmpg2 := t.dmpg2, iopg := t.iopg, ijpg := t.ijpg
      astat := t.astat, mstat := t.mstat, imask := t.imask, irptl := t.irptl, icntl := t.icntl, cntr := t.cntr
      ccode := t.ccode, stacka := t.stacka, stackp := t.stackp, lpstacka := t.lpstacka, lpstackp := t.lpstackp
      windows := t.windows } := by
  rcases r with d | r | r | r
  · rfl
  all_goals cases r <;> rfl

end Sys2Proof.Machine
end

