-- ==== Sys2Proof/Laws/Kept.lean ====
section
/-! SUPPORT. What every operation of an executed instruction keeps: PC and the parameters, memory in canonical form and the
stacks within their depths (`Kept`), and, but for branches, the sequencer (`KeptFlow`). -/

namespace Sys2Proof.Machine

/-- PC, the parameters, the form of memory and the stack depths are kept. -/
structure Kept (s t : State) : Prop where
  pc : t.pc = s.pc
  params : t.params = s.params
  mem : s.mem.wf → t.mem.wf
  depths : s.stacksFit → t.stacksFit

/-- `Kept`, and no branch is made or pending that was not before. -/
structure KeptFlow (s t : State) : Prop extends Kept s t where
  dbpend : t.dbpend = s.dbpend
  redirect : t.redirect = s.redirect

theorem Kept.trans {s t u : State} (h : Kept s t) (k : Kept t u) : Kept s u :=
  ⟨k.pc.trans h.pc, k.params.trans h.params, fun m => k.mem (h.mem m), fun m => k.depths (h.depths m)⟩

theorem KeptFlow.trans {s t u : State} (h : KeptFlow s t) (k : KeptFlow t u) : KeptFlow s u :=
  ⟨h.toKept.trans k.toKept, k.dbpend.trans h.dbpend, k.redirect.trans h.redirect⟩

theorem KeptFlow.refl (s : State) : KeptFlow s s := ⟨⟨rfl, rfl, id, id⟩, rfl, rfl⟩

/-- A state that differs in fields outside memory, the stacks, the parameters and the sequencer only. -/
theorem KeptFlow.of_eq {s t : State} (h1 : t.pc = s.pc) (h2 : t.params = s.params) (h3 : t.mem = s.mem)
    (h4 : t.pcStack = s.pcStack) (h5 : t.loopStack = s.loopStack) (h6 : t.statusStack = s.statusStack)
    (h7 : t.dbpend = s.dbpend) (h8 : t.redirect = s.redirect) : KeptFlow s t := by
  refine ⟨⟨h1, h2, fun m => h3 ▸ m, fun m => ?_⟩, h7, h8⟩
  simpa only [State.stacksFit, h4, h5, h6] using m

namespace KeptFlow

variable (s : State)

theorem updData (r : Role) (f : DataRegs → DataRegs) : KeptFlow s (s.updData r f) :=
  of_eq rfl rfl rfl rfl rfl rfl rfl rfl

theorem updDag (g : Dag) (r : DagRole) (f : DagRegs → DagRegs) : KeptFlow s (s.updDag g r f) :=
  of_eq rfl rfl rfl rfl rfl rfl rfl rfl

theorem evalCond (c : Cond) : KeptFlow s (s.evalCond c) := by
  rw [s.evalCond_frame c]
  exact of_eq rfl rfl rfl rfl rfl rfl rfl rfl

theorem writeReg (r : Reg) (v : Word) : KeptFlow s (s.writeReg r v) := by
  rw [s.writeReg_frame r v]
  exact of_eq rfl rfl rfl rfl rfl rfl rfl rfl

theorem compute (w : Bool) (z : ResultReg) (f : Compute) : KeptFlow s (s.compute w z f) := by
  rw [s.compute_frame w z f]
  exact of_eq rfl rfl rfl rfl rfl rfl rfl rfl

theorem aluOp (z : Option ResultReg) (f : AluFn) (x y : Word) : KeptFlow s (s.aluOp z f x y) := by
  rw [s.aluOp_frame z f x y]
  exact of_eq rfl rfl rfl rfl rfl rfl rfl rfl

theorem macOp (w : Bool) (z : ResultReg) (op : MacOp) (fmt : MacFmt) (x y : Word) :
    KeptFlow s (s.macOp w z op fmt x y) := by
  rw [s.macOp_frame w z op fmt x y]
  exact of_eq rfl rfl rfl rfl rfl rfl rfl rfl

theorem satOp (z : ResultReg) : KeptFlow s (s.satOp z) := by
  rw [s.satOp_frame z]
  exact of_eq rfl rfl rfl rfl rfl rfl rfl rfl

theorem divStep (w : Word) (q l : Bool) : KeptFlow s (s.divStep w q l) := of_eq rfl rfl rfl rfl rfl rfl rfl rfl

theorem shiftOp (f : ShiftFn) (x : Word) : KeptFlow s (s.shiftOp f x) := by
  rw [s.shiftOp_frame f x]
  exact of_eq rfl rfl rfl rfl rfl rfl rfl rfl

theorem putSr (o : Bool) (v : Acc40) : KeptFlow s (s.putSr o v) := of_eq rfl rfl rfl rfl rfl rfl rfl rfl

theorem loadBeside (l : List Dreg) (d : Dreg) (v : Word) : KeptFlow s (s.loadBeside l d v) := by
  rw [s.loadBeside_frame l d v]
  exact of_eq rfl rfl rfl rfl rfl rfl rfl rfl

theorem postModify (u : State) (g : Dag) (i m : Slot) : KeptFlow s (s.postModify u g i m) :=
  of_eq rfl rfl rfl rfl rfl rfl rfl rfl

theorem write16 (a : Addr) (v : Word) : KeptFlow s (s.write16 a v) := by
  refine ⟨⟨?_, ?_, fun h => State.wf_write16 h a v, ?_⟩, ?_, ?_⟩ <;> rw [s.write16_frame a v] <;> first | rfl | exact id

theorem write24 (a : Addr) (v : Code) : KeptFlow s (s.write24 a v) := by
  refine ⟨⟨?_, ?_, fun h => State.wf_write24 h a v, ?_⟩, ?_, ?_⟩ <;> rw [s.write24_frame a v] <;> first | rfl | exact id

theorem openSstat (u : State) (b : BitVec 8) : KeptFlow s (s.openSstat u b) :=
  of_eq rfl rfl rfl rfl rfl rfl rfl rfl

theorem flushCache : KeptFlow s s.flushCache := of_eq rfl rfl rfl rfl rfl rfl rfl rfl

theorem levelRequest (u : IcntlUse) (d m : Nat) : KeptFlow s (s.levelRequest u d m) := by
  rw [s.levelRequest_frame u d m]
  exact of_eq rfl rfl rfl rfl rfl rfl rfl rfl

theorem overflow : KeptFlow s s.overflow := of_eq rfl rfl rfl rfl rfl rfl rfl rfl

theorem pcPush (v : Addr) : KeptFlow s (s.pcPush v) := by
  unfold State.pcPush
  split
  · exact overflow s
  · rename_i h
    refine trans (t := { s with pcStack := v :: s.pcStack }) ⟨⟨rfl, rfl, id, fun m => ?_⟩, rfl, rfl⟩
      (levelRequest _ _ _ _)
    simp only [State.stacksFit, Bool.and_eq_true, decide_eq_true_eq, List.length_cons] at m ⊢
    omega

theorem pcDrop : KeptFlow s s.pcDrop := by
  unfold State.pcDrop
  split
  · exact overflow s
  · rename_i rest h
    refine trans (t := { s with pcStack := rest }) ⟨⟨rfl, rfl, id, fun m => ?_⟩, rfl, rfl⟩ (levelRequest _ _ _ _)
    simp only [State.stacksFit, Bool.and_eq_true, decide_eq_true_eq, h, List.length_cons] at m ⊢
    omega

theorem stsPush : KeptFlow s s.stsPush := by
  unfold State.stsPush
  split
  · exact overflow s
  · refine ⟨⟨rfl, rfl, id, fun m => ?_⟩, rfl, rfl⟩
    simp only [State.stacksFit, Bool.and_eq_true, decide_eq_true_eq, List.length_cons] at m ⊢
    omega

theorem stsDrop : KeptFlow s s.stsDrop := by
  unfold State.stsDrop
  split
  · exact overflow s
  · rename_i h
    refine ⟨⟨rfl, rfl, id, fun m => ?_⟩, rfl, rfl⟩
    simp only [State.stacksFit, Bool.and_eq_true, decide_eq_true_eq, h, List.length_cons] at m ⊢
    omega

theorem lpPush (e : LoopEntry) : KeptFlow s (s.lpPush e) := by
  unfold State.lpPush
  split
  · exact overflow s
  · refine ⟨⟨rfl, rfl, id, fun m => ?_⟩, rfl, rfl⟩
    simp only [State.stacksFit, Bool.and_eq_true, decide_eq_true_eq, List.length_cons] at m ⊢
    omega

theorem lpDrop : KeptFlow s s.lpDrop := by
  have e : s.lpDrop = { s with loopStack := s.loopStack.tail } := rfl
  rw [e]
  refine ⟨⟨rfl, rfl, id, fun m => ?_⟩, rfl, rfl⟩
  simp only [State.stacksFit, Bool.and_eq_true, decide_eq_true_eq, List.length_tail] at m ⊢
  omega

theorem popStatus : KeptFlow s s.popStatus :=
  (stsDrop s).trans (of_eq rfl rfl rfl rfl rfl rfl rfl rfl)

theorem pushLoop : KeptFlow s s.pushLoop := lpPush s _

theorem popPc : KeptFlow s s.popPc := (pcDrop s).trans (of_eq rfl rfl rfl rfl rfl rfl rfl rfl)

theorem popLoop : KeptFlow s s.popLoop := (lpDrop s).trans (of_eq rfl rfl rfl rfl rfl rfl rfl rfl)

theorem ite {s t u : State} {c : Prop} [Decidable c] (h : KeptFlow s t) (k : KeptFlow s u) :
    KeptFlow s (if c then t else u) := by
  split
  · exact h
  · exact k

theorem stackOps (f : Bool) (pc lp sts : StackField) : KeptFlow s (s.stackOps f pc lp sts) := by
  have h1 : KeptFlow s (if isPush pc then s.pushPc else s) := ite (pcPush s _) (refl s)
  have h2 := h1.trans (ite (c := isPush lp) (pushLoop _) (refl _))
  have h3 := h2.trans (ite (c := isPush sts) (stsPush _) (refl _))
  have h4 := h3.trans (ite (c := isPop lp) (popLoop _) (refl _))
  have h5 := h4.trans (ite (c := isPop pc) (popPc _) (refl _))
  have h6 := h5.trans (ite (c := isPop sts) (popStatus _) (refl _))
  have h7 := h6.trans (ite (c := f) (flushCache _) (refl _))
  exact h7.trans (ite (refl _) (openSstat _ _ _))

/-- A conditional instruction keeps what its effect keeps. -/
theorem onCond (c : Cond) (f : State → State) (h : ∀ t, KeptFlow t (f t)) : KeptFlow s (s.onCond c f) := by
  unfold State.onCond
  exact ite ((evalCond s c).trans (h _)) (evalCond s c)

end KeptFlow

end Sys2Proof.Machine
end

