-- ==== Sys2Proof/Laws/Exec.lean ====
section
/-! SUPPORT. What every instruction keeps, from the operations it is made of (Laws/Kept.lean), and that a decoded
instruction is well formed. -/

namespace Sys2Proof.Machine

/-- `Kept`, and at most one branch is made: at once, or after the two slots. -/
structure KeptBranch (s t : State) : Prop extends Kept s t where
  flow : (t.dbpend = s.dbpend ∧ t.redirect = s.redirect) ∨
    (t.dbpend = s.dbpend ∧ t.redirect.isSome) ∨ ((∃ a, t.dbpend = some ⟨a, s.pc + 3⟩) ∧ t.redirect = s.redirect)

theorem KeptFlow.toBranch {s t : State} (h : KeptFlow s t) : KeptBranch s t := ⟨h.toKept, .inl ⟨h.dbpend, h.redirect⟩⟩

theorem KeptFlow.branch {s t u : State} (h : KeptFlow s t) (a : Addr) (db : Bool)
    (k : KeptFlow (t.branch a db) u) : KeptBranch s u := by
  have hk : Kept t (t.branch a db) := by
    rw [t.branch_frame a db]; exact ⟨rfl, rfl, id, id⟩
  refine ⟨h.toKept.trans (hk.trans k.toKept), ?_⟩
  rw [k.dbpend, k.redirect]
  cases db
  · exact .inr (.inl ⟨h.dbpend, rfl⟩)
  · refine .inr (.inr ⟨⟨a, ?_⟩, h.redirect⟩)
    show some (DelayedBranch.mk a (t.pc + 3)) = _
    rw [h.pc]

theorem KeptFlow.onCondBranch (s : State) (c : Cond) (f : State → State) (h : ∀ t, KeptFlow s t → KeptBranch s (f t)) :
    KeptBranch s (s.onCond c f) := by
  unfold State.onCond
  split
  · exact h _ (KeptFlow.evalCond s c)
  · exact (KeptFlow.evalCond s c).toBranch

/-- A next state keeps what `KeptFlow` says. -/
def KeptFlowIn (s : State) : Result → Prop
  | .next t => KeptFlow s t
  | _ => True
/-- A next state keeps what `KeptBranch` says. -/
def KeptBranchIn (s : State) : Result → Prop
  | .next t => KeptBranch s t
  | _ => True
open KeptFlow in
theorem moveInto_keptFlow {s t : State} (r : Reg) (h : KeptFlow s t) : KeptFlowIn s (t.moveInto r) := by
  unfold State.moveInto; split
  · exact h
  · trivial
theorem KeptFlow.loadPm (s : State) (r : Reg) (t : Code) : KeptFlow s (s.loadPm r t) :=
  (KeptFlow.of_eq rfl rfl rfl rfl rfl rfl rfl rfl : KeptFlow s { s with px := t.extractLsb' 0 8 }).trans (KeptFlow.writeReg _ _ _)
open KeptFlow in
/-- An instruction that may stand in a delay slot leaves the sequencer alone. -/
theorem exec_keptFlow (i : Instr) (s : State) (hb : Instr.barredFromSlot i = false) : KeptFlowIn s (exec i s) := by
  cases i
  case computeMove z f d src =>
    simp only [exec, execComputeMove]; split
    · exact compute s _ _ _
    · exact (compute s _ _ _).trans (loadBeside _ _ _ _)
  case computeRead => exact ((compute s _ _ _).trans (postModify _ _ _ _ _)).trans (loadBeside _ _ _ _)
  case computeWrite => exact ((write16 s _ _).trans (compute _ _ _ _)).trans (postModify _ _ _ _ _)
  case dualCompute => 
    rename_i f pd dd pmi pmm dmi dmm
    refine (compute s true .result f).trans ?_
    exact of_eq rfl rfl rfl rfl rfl rfl rfl rfl
  case dualRead => exact of_eq rfl rfl rfl rfl rfl rfl rfl rfl
  case noneAlu => exact compute s false _ _
  case noneMac => exact compute s false _ _
  case shiftRead => exact ((shiftOp s _ _).trans (postModify _ _ _ _ _)).trans (loadBeside _ _ _ _)
  case shiftWrite => exact ((write16 s _ _).trans (shiftOp _ _ _)).trans (postModify _ _ _ _ _)
  case shiftMove => exact (shiftOp s _ _).trans (loadBeside _ _ _ _)
  case moveReg => exact moveInto_keptFlow _ (writeReg s _ _)
  case loadDagDirect a r => cases r <;> exact updDag s _ _ (fun _ => _)
  case storeDagDirect => exact write16 s _ _
  case storeDregDirect => exact write16 s _ _
  case loadReg3Imm => exact moveInto_keptFlow _ (writeReg s (.g3 _) _)
  case loadReg1Imm => exact writeReg s (.g1 _) _
  case loadReg2Imm => exact writeReg s (.g2 _) _
  case dmReadPost => exact moveInto_keptFlow _ ((postModify s _ _ _ _).trans (writeReg _ _ _))
  case dmReadPre => exact moveInto_keptFlow _ (writeReg s _ _)
  case pmReadPost => exact moveInto_keptFlow _ ((postModify s _ _ _ _).trans (loadPm _ _ _))
  case pmReadPre => exact moveInto_keptFlow _ (loadPm s _ _)
  case dmWritePost => exact (write16 s _ _).trans (postModify _ _ _ _ _)
  case dmWritePre => exact (write16 s _ _)
  case pmWritePost => exact (write24 s _ _).trans (postModify _ _ _ _ _)
  case pmWritePre => exact (write24 s _ _)
  case dagStorePost => 
    simp only [exec, execDagStorePost]; split
    · exact ((write16 s _ _).trans (postModify _ _ _ _ _)).trans (updDag _ _ _ _)
    · trivial
  case dagStorePre => 
    simp only [exec, execDagStorePre]; split
    · exact (write16 s _ _).trans (updDag _ _ _ _)
    · trivial
  case immReadPost => exact (updDag s _ _ _).trans (updData _ _ _)
  case immWritePost => exact (write16 s _ _).trans (updDag _ _ _ _)
  case immWritePre => exact (write16 s _ _)
  case storeImm16 => exact (write16 s _ _).trans (postModify _ _ _ _ _)
  case storeImm24 => exact (write24 s _ _).trans (postModify _ _ _ _ _)
  case sysWrite => 
    simp only [exec, execSysWrite]; split
    · exact updDag s _ _ _
    · exact of_eq rfl rfl rfl rfl rfl rfl rfl rfl
  case condNop => exact onCond s _ _ fun t => refl t
  case stackControl => exact stackOps s _ _ _ _
  case satMr => exact satOp s _
  case satSr => exact satOp s _
  case divs => exact divStep s _ _ _
  case divq => exact divStep s _ _ _
  all_goals first
    | exact Bool.noConfusion (show true = false from hb)
    | exact onCond s _ _ fun t => aluOp t _ _ _ _
    | exact onCond s _ _ fun t => macOp t _ _ _ _ _ _
    | exact onCond s _ _ fun t => shiftOp t _ _
    | exact aluOp s _ _ _ _
    | exact macOp s _ _ _ _ _ _
    | exact putSr s _ _
    | exact of_eq rfl rfl rfl rfl rfl rfl rfl rfl

theorem KeptFlow.leaveLevel (s : State) : KeptFlow s { s with inService := clearLowest s.inService } :=
  KeptFlow.of_eq rfl rfl rfl rfl rfl rfl rfl rfl

open KeptFlow in
/-- Every instruction keeps PC, the parameters, the form of memory and the stack depths, and makes at most one branch. -/
theorem exec_keptBranch (i : Instr) (s : State) : KeptBranchIn s (exec i s) := by
  by_cases hb : Instr.barredFromSlot i = false
  · have := exec_keptFlow i s hb
    revert this; cases exec i s <;> simp only [KeptFlowIn, KeptBranchIn] <;> first | exact fun h => KeptFlow.toBranch h | exact fun h => trivial
  · cases i <;> first | exact absurd rfl hb | skip
    case doUntilCe => 
      simp only [exec, execDoUntilCe, State.doLoop]; split
      · trivial
      · exact ((lpPush s _).trans (openSstat _ _ _)).toBranch
    case doForever => 
      simp only [exec, execDoForever, State.doLoop]; split
      · trivial
      · exact ((lpPush s _).trans (openSstat _ _ _)).toBranch
    case jumpRel13 => exact onCondBranch s _ _ fun t h => h.branch _ _ (refl _)
    case jumpRel16 => exact (refl s).branch _ _ (refl _)
    case callRel16 => exact (pcPush s _).branch _ _ (openSstat _ _ _)
    case longJump => exact onCondBranch s _ _ fun t h => h.branch _ _ (refl _)
    case longCall => exact onCondBranch s _ _ fun t h => (h.trans (pcPush t _)).branch _ _ (openSstat _ _ _)
    case jumpInd => exact onCondBranch s _ _ fun t h => h.branch _ _ (refl _)
    case callInd => exact onCondBranch s _ _ fun t h => (h.trans (pcPush t _)).branch _ _ (openSstat _ _ _)
    case rts => exact onCondBranch s _ _ fun t h => (h.trans (pcDrop t)).branch _ _ (openSstat _ _ _)
    case rti =>
      exact onCondBranch s _ _ fun t h =>
        ((h.trans (pcDrop t)).trans ((popStatus _).trans (leaveLevel _))).branch _ _ (openSstat _ _ _)
    all_goals exact (stackOps s _ _ _ _).toBranch

/-- A two-word instruction makes no delayed branch. -/
theorem exec_size_two {i : Instr} {s t : State} (h : i.size = 2) (he : exec i s = .next t) : t.dbpend = s.dbpend := by
  have hk := exec_keptFlow i s
  cases i <;> first | exact absurd (show 1 = 2 from h) (by decide) | skip
  case storeImm16 => have := hk rfl; rw [he] at this; exact KeptFlow.dbpend this
  case storeImm24 => have := hk rfl; rw [he] at this; exact KeptFlow.dbpend this
  case longJump a c =>
    cases he
    simp only [State.onCond]
    split
    · exact (KeptFlow.evalCond s c).dbpend
    · exact (KeptFlow.evalCond s c).dbpend
  case longCall a c =>
    cases he
    simp only [State.onCond]
    split
    · exact ((KeptFlow.evalCond s c).trans (KeptFlow.pcPush _ _)).dbpend
    · exact (KeptFlow.evalCond s c).dbpend

/-! ## Decoding -/

/-- The more specific row's instruction has the same operand restrictions. -/
theorem specialise_wellFormed (i : Instr) (h : i.wellFormed = true) : (specialise i).wellFormed = true := by
  unfold specialise
  split <;> first | rfl | exact h

/-- What the decoder answers is well formed. -/
theorem decode_wellFormed {ws rest : List Code} {i : Instr} (h : decode ws = .ok (i, rest)) : i.wellFormed = true := by
  have key : ∀ w v j, decodeWords w v = .ok j → j.wellFormed = true := by
    intro w v j hj
    unfold decodeWords at hj
    split at hj
    · split at hj
      · rename_i hw
        cases hj
        exact specialise_wellFormed _ hw
      · cases hj
    · cases hj
  have key' : ∀ w v r, (decodeWords w v).map (fun i => (i, r)) = .ok (i, rest) → i.wellFormed = true := by
    intro w v r hj
    cases hd : decodeWords w v with
    | error e => rw [hd] at hj; cases hj
    | ok j => rw [hd] at hj; cases hj; exact key w v _ hd
  unfold decode at h
  split at h
  · cases h
  · split at h
    · split at h
      · cases h
      · exact key' _ _ _ h
    · exact key' _ _ _ h

theorem fetch_wellFormed {s : State} {i : Instr} (h : s.fetch = .ok i) : i.wellFormed = true := by
  unfold State.fetch at h
  split at h
  · cases h
  · split at h
    · cases h
    · rename_i hd
      cases h
      exact decode_wellFormed hd

end Sys2Proof.Machine
end

