-- ==== Sys2Proof/Laws/PerInstr.lean ====
section
/-! SUPPORT. Laws stated once for every instruction, one lemma per constructor (LAWS.json). -/

/-- R140: the encoder writes as many words as the instruction is long. -/
def Sys2Proof.Laws.EncodeLength.Statement (i : Sys2Proof.Instr) : Prop := (Sys2Proof.encode i).length = i.size

namespace Sys2Proof.Laws.EncodeLength

theorem aluPassYop (z : ResultReg) (y : AluYop) (x : AluXop) (c : Cond) : Statement (.aluPassYop z y x c) := rfl
theorem aluPassConst (z : ResultReg) (k : Const) (x : AluXop) (c : Cond) : Statement (.aluPassConst z k x c) := rfl
theorem aluPassReg (z : ResultReg) (y0 : Bool) (x y : Dreg) : Statement (.aluPassReg z y0 x y) := rfl
theorem aluIncYop (z : ResultReg) (y : AluYop) (x : AluXop) (c : Cond) : Statement (.aluIncYop z y x c) := rfl
theorem aluIncConst (z : ResultReg) (k : Const) (x : AluXop) (c : Cond) : Statement (.aluIncConst z k x c) := rfl
theorem aluIncReg (z : ResultReg) (y0 : Bool) (x y : Dreg) : Statement (.aluIncReg z y0 x y) := rfl
theorem aluAddCYop (z : ResultReg) (y : AluYop) (x : AluXop) (c : Cond) : Statement (.aluAddCYop z y x c) := rfl
theorem aluAddCConst (z : ResultReg) (k : Const) (x : AluXop) (c : Cond) : Statement (.aluAddCConst z k x c) := rfl
theorem aluAddCReg (z : ResultReg) (y0 : Bool) (x y : Dreg) : Statement (.aluAddCReg z y0 x y) := rfl
theorem aluAddYop (z : ResultReg) (y : AluYop) (x : AluXop) (c : Cond) : Statement (.aluAddYop z y x c) := rfl
theorem aluAddConst (z : ResultReg) (k : Const) (x : AluXop) (c : Cond) : Statement (.aluAddConst z k x c) := rfl
theorem aluAddReg (z : ResultReg) (y0 : Bool) (x y : Dreg) : Statement (.aluAddReg z y0 x y) := rfl
theorem aluNotYYop (z : ResultReg) (y : AluYop) (x : AluXop) (c : Cond) : Statement (.aluNotYYop z y x c) := rfl
theorem aluNotYConst (z : ResultReg) (k : Const) (x : AluXop) (c : Cond) : Statement (.aluNotYConst z k x c) := rfl
theorem aluNotYReg (z : ResultReg) (y0 : Bool) (x y : Dreg) : Statement (.aluNotYReg z y0 x y) := rfl
theorem aluNegYop (z : ResultReg) (y : AluYop) (x : AluXop) (c : Cond) : Statement (.aluNegYop z y x c) := rfl
theorem aluNegConst (z : ResultReg) (k : Const) (x : AluXop) (c : Cond) : Statement (.aluNegConst z k x c) := rfl
theorem aluNegReg (z : ResultReg) (y0 : Bool) (x y : Dreg) : Statement (.aluNegReg z y0 x y) := rfl
theorem aluSubBYop (z : ResultReg) (y : AluYop) (x : AluXop) (c : Cond) : Statement (.aluSubBYop z y x c) := rfl
theorem aluSubBConst (z : ResultReg) (k : Const) (x : AluXop) (c : Cond) : Statement (.aluSubBConst z k x c) := rfl
theorem aluSubBReg (z : ResultReg) (y0 : Bool) (x y : Dreg) : Statement (.aluSubBReg z y0 x y) := rfl
theorem aluSubYop (z : ResultReg) (y : AluYop) (x : AluXop) (c : Cond) : Statement (.aluSubYop z y x c) := rfl
theorem aluSubConst (z : ResultReg) (k : Const) (x : AluXop) (c : Cond) : Statement (.aluSubConst z k x c) := rfl
theorem aluSubReg (z : ResultReg) (y0 : Bool) (x y : Dreg) : Statement (.aluSubReg z y0 x y) := rfl
theorem aluDecYop (z : ResultReg) (y : AluYop) (x : AluXop) (c : Cond) : Statement (.aluDecYop z y x c) := rfl
theorem aluDecConst (z : ResultReg) (k : Const) (x : AluXop) (c : Cond) : Statement (.aluDecConst z k x c) := rfl
theorem aluDecReg (z : ResultReg) (y0 : Bool) (x y : Dreg) : Statement (.aluDecReg z y0 x y) := rfl
theorem aluRsubYop (z : ResultReg) (y : AluYop) (x : AluXop) (c : Cond) : Statement (.aluRsubYop z y x c) := rfl
theorem aluRsubConst (z : ResultReg) (k : Const) (x : AluXop) (c : Cond) : Statement (.aluRsubConst z k x c) := rfl
theorem aluRsubReg (z : ResultReg) (y0 : Bool) (x y : Dreg) : Statement (.aluRsubReg z y0 x y) := rfl
theorem aluRsubBYop (z : ResultReg) (y : AluYop) (x : AluXop) (c : Cond) : Statement (.aluRsubBYop z y x c) := rfl
theorem aluRsubBConst (z : ResultReg) (k : Const) (x : AluXop) (c : Cond) : Statement (.aluRsubBConst z k x c) := rfl
theorem aluRsubBReg (z : ResultReg) (y0 : Bool) (x y : Dreg) : Statement (.aluRsubBReg z y0 x y) := rfl
theorem aluNotXYop (z : ResultReg) (y : AluYop) (x : AluXop) (c : Cond) : Statement (.aluNotXYop z y x c) := rfl
theorem aluNotXConst (z : ResultReg) (k : Const) (x : AluXop) (c : Cond) : Statement (.aluNotXConst z k x c) := rfl
theorem aluNotXReg (z : ResultReg) (y0 : Bool) (x y : Dreg) : Statement (.aluNotXReg z y0 x y) := rfl
theorem aluAndYop (z : ResultReg) (y : AluYop) (x : AluXop) (c : Cond) : Statement (.aluAndYop z y x c) := rfl
theorem aluAndConst (z : ResultReg) (k : Const) (x : AluXop) (c : Cond) : Statement (.aluAndConst z k x c) := rfl
theorem aluAndReg (z : ResultReg) (y0 : Bool) (x y : Dreg) : Statement (.aluAndReg z y0 x y) := rfl
theorem aluOrYop (z : ResultReg) (y : AluYop) (x : AluXop) (c : Cond) : Statement (.aluOrYop z y x c) := rfl
theorem aluOrConst (z : ResultReg) (k : Const) (x : AluXop) (c : Cond) : Statement (.aluOrConst z k x c) := rfl
theorem aluOrReg (z : ResultReg) (y0 : Bool) (x y : Dreg) : Statement (.aluOrReg z y0 x y) := rfl
theorem aluXorYop (z : ResultReg) (y : AluYop) (x : AluXop) (c : Cond) : Statement (.aluXorYop z y x c) := rfl
theorem aluXorConst (z : ResultReg) (k : Const) (x : AluXop) (c : Cond) : Statement (.aluXorConst z k x c) := rfl
theorem aluXorReg (z : ResultReg) (y0 : Bool) (x y : Dreg) : Statement (.aluXorReg z y0 x y) := rfl
theorem aluAbsYop (z : ResultReg) (y : AluYop) (x : AluXop) (c : Cond) : Statement (.aluAbsYop z y x c) := rfl
theorem aluAbsConst (z : ResultReg) (k : Const) (x : AluXop) (c : Cond) : Statement (.aluAbsConst z k x c) := rfl
theorem aluAbsReg (z : ResultReg) (y0 : Bool) (x y : Dreg) : Statement (.aluAbsReg z y0 x y) := rfl
theorem tstBit (z : ResultReg) (n : BitVec 4) (x : AluXop) (c : Cond) : Statement (.tstBit z n x c) := rfl
theorem setBit (z : ResultReg) (n : BitVec 4) (x : AluXop) (c : Cond) : Statement (.setBit z n x c) := rfl
theorem clrBit (z : ResultReg) (n : BitVec 4) (x : AluXop) (c : Cond) : Statement (.clrBit z n x c) := rfl
theorem tglBit (z : ResultReg) (n : BitVec 4) (x : AluXop) (c : Cond) : Statement (.tglBit z n x c) := rfl
theorem passZero (z : ResultReg) (x : AluXop) (c : Cond) : Statement (.passZero z x c) := rfl
theorem passOne (z : ResultReg) (x : AluXop) (c : Cond) : Statement (.passOne z x c) := rfl
theorem passMinusOne (z : ResultReg) (x : AluXop) (c : Cond) : Statement (.passMinusOne z x c) := rfl
theorem passXop (z : ResultReg) (x : AluXop) (c : Cond) : Statement (.passXop z x c) := rfl
theorem negXop (z : ResultReg) (x : AluXop) (c : Cond) : Statement (.negXop z x c) := rfl
theorem macMulRndYop (z : ResultReg) (y : MacYop) (x : MacXop) (c : Cond) : Statement (.macMulRndYop z y x c) := rfl
theorem macMulRndSq (z : ResultReg) (x : MacXop) (c : Cond) : Statement (.macMulRndSq z x c) := rfl
theorem macMulRndReg (z : ResultReg) (y0 : Bool) (x y : Dreg) : Statement (.macMulRndReg z y0 x y) := rfl
theorem macAddRndYop (z : ResultReg) (y : MacYop) (x : MacXop) (c : Cond) : Statement (.macAddRndYop z y x c) := rfl
theorem macAddRndSq (z : ResultReg) (x : MacXop) (c : Cond) : Statement (.macAddRndSq z x c) := rfl
theorem macAddRndReg (z : ResultReg) (y0 : Bool) (x y : Dreg) : Statement (.macAddRndReg z y0 x y) := rfl
theorem macSubRndYop (z : ResultReg) (y : MacYop) (x : MacXop) (c : Cond) : Statement (.macSubRndYop z y x c) := rfl
theorem macSubRndSq (z : ResultReg) (x : MacXop) (c : Cond) : Statement (.macSubRndSq z x c) := rfl
theorem macSubRndReg (z : ResultReg) (y0 : Bool) (x y : Dreg) : Statement (.macSubRndReg z y0 x y) := rfl
theorem macMulSsYop (z : ResultReg) (y : MacYop) (x : MacXop) (c : Cond) : Statement (.macMulSsYop z y x c) := rfl
theorem macMulSsSq (z : ResultReg) (x : MacXop) (c : Cond) : Statement (.macMulSsSq z x c) := rfl
theorem macMulSsReg (z : ResultReg) (y0 : Bool) (x y : Dreg) : Statement (.macMulSsReg z y0 x y) := rfl
theorem macMulSuYop (z : ResultReg) (y : MacYop) (x : MacXop) (c : Cond) : Statement (.macMulSuYop z y x c) := rfl
theorem macMulSuSq (z : ResultReg) (x : MacXop) (c : Cond) : Statement (.macMulSuSq z x c) := rfl
theorem macMulSuReg (z : ResultReg) (y0 : Bool) (x y : Dreg) : Statement (.macMulSuReg z y0 x y) := rfl
theorem macMulUsYop (z : ResultReg) (y : MacYop) (x : MacXop) (c : Cond) : Statement (.macMulUsYop z y x c) := rfl
theorem macMulUsSq (z : ResultReg) (x : MacXop) (c : Cond) : Statement (.macMulUsSq z x c) := rfl
theorem macMulUsReg (z : ResultReg) (y0 : Bool) (x y : Dreg) : Statement (.macMulUsReg z y0 x y) := rfl
theorem macMulUuYop (z : ResultReg) (y : MacYop) (x : MacXop) (c : Cond) : Statement (.macMulUuYop z y x c) := rfl
theorem macMulUuSq (z : ResultReg) (x : MacXop) (c : Cond) : Statement (.macMulUuSq z x c) := rfl
theorem macMulUuReg (z : ResultReg) (y0 : Bool) (x y : Dreg) : Statement (.macMulUuReg z y0 x y) := rfl
theorem macAddSsYop (z : ResultReg) (y : MacYop) (x : MacXop) (c : Cond) : Statement (.macAddSsYop z y x c) := rfl
theorem macAddSsSq (z : ResultReg) (x : MacXop) (c : Cond) : Statement (.macAddSsSq z x c) := rfl
theorem macAddSsReg (z : ResultReg) (y0 : Bool) (x y : Dreg) : Statement (.macAddSsReg z y0 x y) := rfl
theorem macAddSuYop (z : ResultReg) (y : MacYop) (x : MacXop) (c : Cond) : Statement (.macAddSuYop z y x c) := rfl
theorem macAddSuSq (z : ResultReg) (x : MacXop) (c : Cond) : Statement (.macAddSuSq z x c) := rfl
theorem macAddSuReg (z : ResultReg) (y0 : Bool) (x y : Dreg) : Statement (.macAddSuReg z y0 x y) := rfl
theorem macAddUsYop (z : ResultReg) (y : MacYop) (x : MacXop) (c : Cond) : Statement (.macAddUsYop z y x c) := rfl
theorem macAddUsSq (z : ResultReg) (x : MacXop) (c : Cond) : Statement (.macAddUsSq z x c) := rfl
theorem macAddUsReg (z : ResultReg) (y0 : Bool) (x y : Dreg) : Statement (.macAddUsReg z y0 x y) := rfl
theorem macAddUuYop (z : ResultReg) (y : MacYop) (x : MacXop) (c : Cond) : Statement (.macAddUuYop z y x c) := rfl
theorem macAddUuSq (z : ResultReg) (x : MacXop) (c : Cond) : Statement (.macAddUuSq z x c) := rfl
theorem macAddUuReg (z : ResultReg) (y0 : Bool) (x y : Dreg) : Statement (.macAddUuReg z y0 x y) := rfl
theorem macSubSsYop (z : ResultReg) (y : MacYop) (x : MacXop) (c : Cond) : Statement (.macSubSsYop z y x c) := rfl
theorem macSubSsSq (z : ResultReg) (x : MacXop) (c : Cond) : Statement (.macSubSsSq z x c) := rfl
theorem macSubSsReg (z : ResultReg) (y0 : Bool) (x y : Dreg) : Statement (.macSubSsReg z y0 x y) := rfl
theorem macSubSuYop (z : ResultReg) (y : MacYop) (x : MacXop) (c : Cond) : Statement (.macSubSuYop z y x c) := rfl
theorem macSubSuSq (z : ResultReg) (x : MacXop) (c : Cond) : Statement (.macSubSuSq z x c) := rfl
theorem macSubSuReg (z : ResultReg) (y0 : Bool) (x y : Dreg) : Statement (.macSubSuReg z y0 x y) := rfl
theorem macSubUsYop (z : ResultReg) (y : MacYop) (x : MacXop) (c : Cond) : Statement (.macSubUsYop z y x c) := rfl
theorem macSubUsSq (z : ResultReg) (x : MacXop) (c : Cond) : Statement (.macSubUsSq z x c) := rfl
theorem macSubUsReg (z : ResultReg) (y0 : Bool) (x y : Dreg) : Statement (.macSubUsReg z y0 x y) := rfl
theorem macSubUuYop (z : ResultReg) (y : MacYop) (x : MacXop) (c : Cond) : Statement (.macSubUuYop z y x c) := rfl
theorem macSubUuSq (z : ResultReg) (x : MacXop) (c : Cond) : Statement (.macSubUuSq z x c) := rfl
theorem macSubUuReg (z : ResultReg) (y0 : Bool) (x y : Dreg) : Statement (.macSubUuReg z y0 x y) := rfl
theorem clearAcc (z : ResultReg) (x : MacXop) (c : Cond) : Statement (.clearAcc z x c) := rfl
theorem roundAcc (z : ResultReg) (x : MacXop) (c : Cond) : Statement (.roundAcc z x c) := rfl
theorem condNop (zyx : BitVec 6) (c : Cond) : Statement (.condNop zyx c) := rfl
theorem regNop (z : ResultReg) (y0 : Bool) (x y : Dreg) : Statement (.regNop z y0 x y) := rfl
theorem divs (y : DivYop) (x : AluXop) : Statement (.divs y x) := rfl
theorem divq (x : AluXop) : Statement (.divq x) := rfl
theorem satMr : Statement (.satMr) := rfl
theorem satSr : Statement (.satSr) := rfl
theorem lshiftHi (x : Dreg) (c : Cond) : Statement (.lshiftHi x c) := rfl
theorem lshiftHiOr (x : Dreg) (c : Cond) : Statement (.lshiftHiOr x c) := rfl
theorem lshiftLo (x : Dreg) (c : Cond) : Statement (.lshiftLo x c) := rfl
theorem lshiftLoOr (x : Dreg) (c : Cond) : Statement (.lshiftLoOr x c) := rfl
theorem ashiftHi (x : Dreg) (c : Cond) : Statement (.ashiftHi x c) := rfl
theorem ashiftHiOr (x : Dreg) (c : Cond) : Statement (.ashiftHiOr x c) := rfl
theorem ashiftLo (x : Dreg) (c : Cond) : Statement (.ashiftLo x c) := rfl
theorem ashiftLoOr (x : Dreg) (c : Cond) : Statement (.ashiftLoOr x c) := rfl
theorem normHi (x : Dreg) (c : Cond) : Statement (.normHi x c) := rfl
theorem normHiOr (x : Dreg) (c : Cond) : Statement (.normHiOr x c) := rfl
theorem normLo (x : Dreg) (c : Cond) : Statement (.normLo x c) := rfl
theorem normLoOr (x : Dreg) (c : Cond) : Statement (.normLoOr x c) := rfl
theorem expHi (x : Dreg) (c : Cond) : Statement (.expHi x c) := rfl
theorem expHix (x : Dreg) (c : Cond) : Statement (.expHix x c) := rfl
theorem expLo (x : Dreg) (c : Cond) : Statement (.expLo x c) := rfl
theorem expAdj (x : Dreg) (c : Cond) : Statement (.expAdj x c) := rfl
theorem lshiftHiImm (x : Dreg) (e : BitVec 8) : Statement (.lshiftHiImm x e) := rfl
theorem lshiftHiOrImm (x : Dreg) (e : BitVec 8) : Statement (.lshiftHiOrImm x e) := rfl
theorem lshiftLoImm (x : Dreg) (e : BitVec 8) : Statement (.lshiftLoImm x e) := rfl
theorem lshiftLoOrImm (x : Dreg) (e : BitVec 8) : Statement (.lshiftLoOrImm x e) := rfl
theorem ashiftHiImm (x : Dreg) (e : BitVec 8) : Statement (.ashiftHiImm x e) := rfl
theorem ashiftHiOrImm (x : Dreg) (e : BitVec 8) : Statement (.ashiftHiOrImm x e) := rfl
theorem ashiftLoImm (x : Dreg) (e : BitVec 8) : Statement (.ashiftLoImm x e) := rfl
theorem ashiftLoOrImm (x : Dreg) (e : BitVec 8) : Statement (.ashiftLoOrImm x e) := rfl
theorem dualCompute (f : Compute) (pd : PmDest) (dd : DmDest) (pmi pmm dmi dmm : Slot) : Statement (.dualCompute f pd dd pmi pmm dmi dmm) := rfl
theorem dualRead (unused : BitVec 5) (pd : PmDest) (dd : DmDest) (pmi pmm dmi dmm : Slot) : Statement (.dualRead unused pd dd pmi pmm dmi dmm) := rfl
theorem computeRead (g : Dag) (z : ResultReg) (f : Compute) (d : Dreg) (i m : Slot) : Statement (.computeRead g z f d i m) := rfl
theorem computeWrite (g : Dag) (z : ResultReg) (f : Compute) (d : Dreg) (i m : Slot) : Statement (.computeWrite g z f d i m) := rfl
theorem computeMove (z : ResultReg) (f : Compute) (d src : Dreg) : Statement (.computeMove z f d src) := rfl
theorem noneAlu (z : ResultReg) (f : AluFn) (y : AluYop) (x : AluXop) : Statement (.noneAlu z f y x) := rfl
theorem noneMac (z : ResultReg) (f : MacSel) : Statement (.noneMac z f) := rfl
theorem shiftRead (g : Dag) (f : ShiftFn) (x : ShiftXop) (d : Dreg) (i m : Slot) : Statement (.shiftRead g f x d i m) := rfl
theorem shiftWrite (g : Dag) (f : ShiftFn) (x : ShiftXop) (d : Dreg) (i m : Slot) : Statement (.shiftWrite g f x d i m) := rfl
theorem shiftMove (f : ShiftFn) (x d src : Dreg) : Statement (.shiftMove f x d src) := rfl
theorem moveReg (d src : Reg) : Statement (.moveReg d src) := rfl
theorem loadDagDirect (a : BitVec 16) (r : DagReg) : Statement (.loadDagDirect a r) := rfl
theorem storeDagDirect (a : BitVec 16) (r : DagReg) : Statement (.storeDagDirect a r) := rfl
theorem loadDregDirect (a : BitVec 16) (d : Dreg) : Statement (.loadDregDirect a d) := rfl
theorem storeDregDirect (a : BitVec 16) (d : Dreg) : Statement (.storeDregDirect a d) := rfl
theorem loadDregImm (v : BitVec 16) (d : Dreg) : Statement (.loadDregImm v d) := rfl
theorem loadReg1Imm (v : BitVec 16) (r : Reg1) : Statement (.loadReg1Imm v r) := rfl
theorem loadReg2Imm (v : BitVec 16) (r : Reg2) : Statement (.loadReg2Imm v r) := rfl
theorem loadReg3Imm (v : BitVec 12) (r : Reg3) : Statement (.loadReg3Imm v r) := rfl
theorem dmReadPost (g : Dag) (r : Reg) (i m : Slot) : Statement (.dmReadPost g r i m) := rfl
theorem dmWritePost (g : Dag) (r : Reg) (i m : Slot) : Statement (.dmWritePost g r i m) := rfl
theorem dmReadPre (g : Dag) (r : Reg) (i m : Slot) : Statement (.dmReadPre g r i m) := rfl
theorem dmWritePre (g : Dag) (r : Reg) (i m : Slot) : Statement (.dmWritePre g r i m) := rfl
theorem pmReadPost (g : Dag) (r : Reg) (i m : Slot) : Statement (.pmReadPost g r i m) := rfl
theorem pmWritePost (g : Dag) (r : Reg) (i m : Slot) : Statement (.pmWritePost g r i m) := rfl
theorem pmReadPre (g : Dag) (r : Reg) (i m : Slot) : Statement (.pmReadPre g r i m) := rfl
theorem pmWritePre (g : Dag) (r : Reg) (i m : Slot) : Statement (.pmWritePre g r i m) := rfl
theorem dagStorePost (g grp : Dag) (k : DagKind) (j i m : Slot) : Statement (.dagStorePost g grp k j i m) := rfl
theorem dagStorePre (g grp : Dag) (k : DagKind) (j i m : Slot) : Statement (.dagStorePre g grp k j i m) := rfl
theorem immReadPost (g : Dag) (d : Dreg) (n : BitVec 8) (i : Slot) : Statement (.immReadPost g d n i) := rfl
theorem immWritePost (g : Dag) (d : Dreg) (n : BitVec 8) (i : Slot) : Statement (.immWritePost g d n i) := rfl
theorem immReadPre (g : Dag) (d : Dreg) (n : BitVec 8) (i : Slot) : Statement (.immReadPre g d n i) := rfl
theorem immWritePre (g : Dag) (d : Dreg) (n : BitVec 8) (i : Slot) : Statement (.immWritePre g d n i) := rfl
theorem storeImm16 (g : Dag) (i m : Slot) (v : BitVec 16) : Statement (.storeImm16 g i m v) := rfl
theorem storeImm24 (g : Dag) (i m : Slot) (v : BitVec 24) : Statement (.storeImm24 g i m v) := rfl
theorem ioRead (a : BitVec 10) (d : Dreg) : Statement (.ioRead a d) := rfl
theorem ioWrite (a : BitVec 10) (d : Dreg) : Statement (.ioWrite a d) := rfl
theorem sysRead (a : BitVec 8) (d : Dreg) : Statement (.sysRead a d) := rfl
theorem sysWrite (a : BitVec 8) (d : Dreg) : Statement (.sysWrite a d) := rfl
theorem modify (g : Dag) (i m : Slot) : Statement (.modify g i m) := rfl
theorem modifyImm (g : Dag) (n : BitVec 8) (i : Slot) : Statement (.modifyImm g n i) := rfl
theorem doUntilCe (off : BitVec 12) : Statement (.doUntilCe off) := rfl
theorem doForever (off : BitVec 12) : Statement (.doForever off) := rfl
theorem jumpRel13 (db : Bool) (off : BitVec 13) (c : Cond) : Statement (.jumpRel13 db off c) := rfl
theorem jumpRel16 (db : Bool) (off : BitVec 16) : Statement (.jumpRel16 db off) := rfl
theorem callRel16 (db : Bool) (off : BitVec 16) : Statement (.callRel16 db off) := rfl
theorem longJump (a : BitVec 24) (c : Cond) : Statement (.longJump a c) := rfl
theorem longCall (a : BitVec 24) (c : Cond) : Statement (.longCall a c) := rfl
theorem jumpInd (db : Bool) (g : Dag) (c : Cond) (i : Slot) : Statement (.jumpInd db g c i) := rfl
theorem callInd (db : Bool) (g : Dag) (c : Cond) (i : Slot) : Statement (.callInd db g c i) := rfl
theorem rts (db : Bool) (c : Cond) : Statement (.rts db c) := rfl
theorem rti (db ss : Bool) (c : Cond) : Statement (.rti db ss c) := rfl
theorem stackControl (flush : Bool) (pc lp sts : StackField) : Statement (.stackControl flush pc lp sts) := rfl
theorem pushPc : Statement (.pushPc) := rfl
theorem popPc : Statement (.popPc) := rfl
theorem pushLoop : Statement (.pushLoop) := rfl
theorem popLoop : Statement (.popLoop) := rfl
theorem pushSts : Statement (.pushSts) := rfl
theorem popSts : Statement (.popSts) := rfl
theorem flushCache : Statement (.flushCache) := rfl
theorem setInt (n : BitVec 4) : Statement (.setInt n) := rfl
theorem clrInt (n : BitVec 4) : Statement (.clrInt n) := rfl
theorem nop (swcd : BitVec 4) : Statement (.nop swcd) := rfl
theorem idle (v : BitVec 4) : Statement (.idle v) := rfl
theorem modeControl (ti mm sat ol br sr sd int : ModeField) : Statement (.modeControl ti mm sat ol br sr sd int) := rfl

end Sys2Proof.Laws.EncodeLength
end

