-- ==== Sys2Proof/Tests/Slice0.lean ====
section
/-! SUPPORT. The row's own tests: ill-formed terms refused, every constructor's word decoded, single steps with the results
of the spec's own vectors (spec/95_test_vectors.md, spec/96_test_vectors_part2.md), and, for each statement with hypotheses, a
state and operands that meet them together. -/

namespace Sys2Proof.Tests

open Sys2Proof.Machine Sys2Proof.Claims

/-! ## Ill-formed terms -/

/-- The term is not well formed and the machine refuses it. -/
def refusedAs (i : Instr) (r : Refusal) : Bool :=
  !i.wellFormed && match exec i State.reset with
    | .refused q => q == r
    | _ => false

theorem test_refuse_sstat_destination :
    ([.moveReg (.g3 .sstat) (.g0 .ar), .loadReg3Imm 0 .sstat, .dmReadPost .dag1 (.g3 .sstat) .s0 .s0,
      .dmReadPre .dag1 (.g3 .sstat) .s0 .s0, .pmReadPost .dag2 (.g3 .sstat) .s0 .s0,
      .pmReadPre .dag2 (.g3 .sstat) .s0 .s0] : List Instr).all (refusedAs · .readOnlyRegister) = true := by decide

theorem test_refuse_dag_store_operands :
    ([.dagStorePost .dag1 .dag2 .m .s0 .s1 .s0, .dagStorePost .dag2 .dag2 .i .s1 .s1 .s0,
      .dagStorePre .dag2 .dag1 .l .s0 .s1 .s0, .dagStorePre .dag1 .dag1 .i .s3 .s3 .s0] : List Instr).all
      (refusedAs · .dagStoreOperands) = true := by decide

theorem test_refuse_empty_loop :
    ([.doUntilCe 0, .doForever 0] : List Instr).all (refusedAs · .loopOffset) = true := by decide

/-! ## Decoding

One word of every constructor, written from the row's pattern and the code tables R144 to R151 (a word of X AND constant is
TSTBIT's or CLRBIT's), then words that are no instruction. -/

/-- Each list of words decodes to its instruction. -/
def decodeAs (l : List (List Code × Instr)) : Bool :=
  l.all fun p => match decode p.1 with
    | .ok (i, []) => i == p.2
    | _ => false

/-- Each word is refused for the reason given. -/
def rejectAs (l : List (Code × DecodeError)) : Bool :=
  l.all fun p => match decode [p.1, 0] with
    | .error e => e == p.2
    | .ok _ => false

theorem test_decode_alu_yop : decodeAs [
    ([0b001001100000101100001110#24], .aluPassYop .feedback .ay1 .mr0 .notCe),
    ([0b001001100011000100001100#24], .aluIncYop .feedback .af .ax1 .mv),
    ([0b001001100101010000001000#24], .aluAddCYop .feedback .af .mr1 .ac),
    ([0b001000100110101000001111#24], .aluAddYop .result .ay1 .ar .always),
    ([0b001000101001011100000110#24], .aluNotYYop .result .af .sr1 .av),
    ([0b001000101010101100000010#24], .aluNegYop .result .ay1 .mr0 .gt),
    ([0b001000101101000100000111#24], .aluSubBYop .result .af .ax1 .notAv),
    ([0b001000101111011100000101#24], .aluSubYop .result .af .sr1 .ge),
    ([0b001000110000100100001010#24], .aluDecYop .result .ay1 .ax1 .swcond),
    ([0b001001110010011000001010#24], .aluRsubYop .feedback .ay0 .sr0 .swcond),
    ([0b001001110100010000000001#24], .aluRsubBYop .feedback .ay0 .mr1 .ne),
    ([0b001001110111001000001101#24], .aluNotXYop .feedback .af .ar .notMv),
    ([0b001000111001000100001010#24], .aluAndYop .result .af .ax1 .swcond),
    ([0b001001111011000100001100#24], .aluOrYop .feedback .af .ax1 .mv),
    ([0b001001111100001000000101#24], .aluXorYop .feedback .ay0 .ar .ge),
    ([0b001001111110000000000010#24], .aluAbsYop .feedback .ay0 .ax0 .gt)] = true := by decide

theorem test_decode_alu_const : decodeAs [
    ([0b001000100000110000111110#24], .aluPassConst .result ⟨true, 4⟩ .mr1 .notCe),
    ([0b001000100011110101111000#24], .aluIncConst .result ⟨true, 13⟩ .mr2 .ac),
    ([0b001000100101000010110001#24], .aluAddCConst .result ⟨true, 10⟩ .ax0 .ne),
    ([0b001000100110101011010000#24], .aluAddConst .result ⟨false, 7⟩ .ar .eq),
    ([0b001001101001000111110100#24], .aluNotYConst .feedback ⟨true, 11⟩ .ax1 .lt),
    ([0b001001101011101110011110#24], .aluNegConst .feedback ⟨false, 14⟩ .mr0 .notCe),
    ([0b001000101101110100111101#24], .aluSubBConst .result ⟨true, 12⟩ .mr2 .notMv),
    ([0b001000101110110110011010#24], .aluSubConst .result ⟨false, 6⟩ .mr2 .swcond),
    ([0b001000110000000010011111#24], .aluDecConst .result ⟨false, 2⟩ .ax0 .always),
    ([0b001001110011001101110011#24], .aluRsubConst .feedback ⟨true, 9⟩ .mr0 .le),
    ([0b001000110101010000011111#24], .aluRsubBConst .result ⟨false, 8⟩ .mr1 .always),
    ([0b001000110111011010010010#24], .aluNotXConst .result ⟨false, 10⟩ .sr0 .gt),
    ([0b001001111001100100010100#24], .tstBit .feedback 12 .ax1 .lt),
    ([0b001000111011011110111001#24], .aluOrConst .result ⟨true, 10⟩ .sr1 .notAc),
    ([0b001000111100101100111001#24], .aluXorConst .result ⟨true, 4⟩ .mr0 .notAc),
    ([0b001000111111101100010000#24], .aluAbsConst .result ⟨false, 12⟩ .mr0 .eq)] = true := by decide

theorem test_decode_alu_reg : decodeAs [
    ([0b001000100001111100100000#24], .aluPassReg .result true .sr0 .ax0),
    ([0b001000100011010000100011#24], .aluIncReg .result true .ay0 .mx1),
    ([0b001001100101011100100100#24], .aluAddCReg .feedback true .my1 .ay0),
    ([0b001001100111101000100111#24], .aluAddReg .feedback true .ar .my1),
    ([0b001001101001101100101110#24], .aluNotYReg .feedback true .si .mr0),
    ([0b001001101011000000101111#24], .aluNegReg .feedback true .ax0 .sr0),
    ([0b001000101101101000101111#24], .aluSubBReg .result true .ar .sr0),
    ([0b001001101110000100100000#24], .aluSubReg .feedback false .ax1 .ax0),
    ([0b001000110001000000101011#24], .aluDecReg .result true .ax0 .si),
    ([0b001000110011010100100000#24], .aluRsubReg .result true .ay1 .ax0),
    ([0b001001110101000100101100#24], .aluRsubBReg .feedback true .ax1 .mr1),
    ([0b001001110111010100101010#24], .aluNotXReg .feedback true .ay1 .ar),
    ([0b001001111000000000101011#24], .aluAndReg .feedback false .ax0 .si),
    ([0b001001111011000000101010#24], .aluOrReg .feedback true .ax0 .ar),
    ([0b001000111101001000101001#24], .aluXorReg .result true .mx0 .sr2),
    ([0b001000111111101100100110#24], .aluAbsReg .result true .si .my0)] = true := by decide

theorem test_decode_second_spellings : decodeAs [
    ([0b001001111001010110011010#24], .tstBit .feedback 10 .mr2 .swcond),
    ([0b001000111011001100010010#24], .setBit .result 8 .mr0 .gt),
    ([0b001001111000101101111010#24], .clrBit .feedback 5 .mr0 .swcond),
    ([0b001001111101110000010111#24], .tglBit .feedback 12 .mr1 .notAv),
    ([0b001001100001100000001101#24], .passZero .feedback .ax0 .notMv),
    ([0b001001100011101000000100#24], .passOne .feedback .ar .lt),
    ([0b001001110001100100000000#24], .passMinusOne .feedback .ax1 .eq),
    ([0b001001100111110000001100#24], .passXop .feedback .mr1 .mv),
    ([0b001001110011100100001100#24], .negXop .feedback .ax1 .mv)] = true := by decide

theorem test_decode_mac_yop : decodeAs [
    ([0b001001000010001100001100#24], .macMulRndYop .feedback .my0 .mr0 .mv),
    ([0b001001000100001000001001#24], .macAddRndYop .feedback .my0 .ar .notAc),
    ([0b001000000110010000001111#24], .macSubRndYop .result .my0 .mr1 .always),
    ([0b001000001001000000001111#24], .macMulSsYop .result .sr1 .mx0 .always),
    ([0b001001001010001100001000#24], .macMulSuYop .feedback .my0 .mr0 .ac),
    ([0b001001001100111100001101#24], .macMulUsYop .feedback .my1 .sr1 .notMv),
    ([0b001000001110001000000001#24], .macMulUuYop .result .my0 .ar .ne),
    ([0b001001010001010100000101#24], .macAddSsYop .feedback .sr1 .mr2 .ge),
    ([0b001000010010101100000101#24], .macAddSuYop .result .my1 .mr0 .ge),
    ([0b001001010100001000000001#24], .macAddUsYop .feedback .my0 .ar .ne),
    ([0b001000010111011100000000#24], .macAddUuYop .result .sr1 .sr1 .eq),
    ([0b001000011001010000000110#24], .macSubSsYop .result .sr1 .mr1 .av),
    ([0b001001011010110100000011#24], .macSubSuYop .feedback .my1 .mr2 .le),
    ([0b001000011100110000000010#24], .macSubUsYop .result .my1 .mr1 .gt),
    ([0b001000011110010100001000#24], .macSubUuYop .result .my0 .mr2 .ac),
    ([0b001001000000101100001010#24], .condNop 0x2B#6 .swcond)] = true := by decide

theorem test_decode_mac_square : decodeAs [
    ([0b001001000010010100011010#24], .macMulRndSq .feedback .mr2 .swcond),
    ([0b001001000100010000010110#24], .macAddRndSq .feedback .mr1 .av),
    ([0b001001000110011000011100#24], .macSubRndSq .feedback .sr0 .mv),
    ([0b001001001000001100011100#24], .macMulSsSq .feedback .mr0 .mv),
    ([0b001000001010000100011110#24], .macMulSuSq .result .mx1 .notCe),
    ([0b001000001100001100011110#24], .macMulUsSq .result .mr0 .notCe),
    ([0b001000001110010100010101#24], .macMulUuSq .result .mr2 .ge),
    ([0b001001010000010100011010#24], .macAddSsSq .feedback .mr2 .swcond),
    ([0b001001010010010000010001#24], .macAddSuSq .feedback .mr1 .ne),
    ([0b001000010100001100011110#24], .macAddUsSq .result .mr0 .notCe),
    ([0b001000010110001100010110#24], .macAddUuSq .result .mr0 .av),
    ([0b001000011000010000010000#24], .macSubSsSq .result .mr1 .eq),
    ([0b001000011010001100010110#24], .macSubSuSq .result .mr0 .av),
    ([0b001000011100010000011101#24], .macSubUsSq .result .mr1 .notMv),
    ([0b001000011110010000010110#24], .macSubUuSq .result .mr1 .av),
    ([0b001000001001111000001100#24], .clearAcc .result .sr0 .mv),
    ([0b001001000101111000001111#24], .roundAcc .feedback .sr0 .always)] = true := by decide

theorem test_decode_mac_reg : decodeAs [
    ([0b001000000010000100100100#24], .macMulRndReg .result false .ax1 .ay0),
    ([0b001000000100010100101010#24], .macAddRndReg .result false .ay1 .ar),
    ([0b001000000110010000100110#24], .macSubRndReg .result false .ay0 .my0),
    ([0b001000001001111100101100#24], .macMulSsReg .result true .sr0 .mr1),
    ([0b001001001011110100100110#24], .macMulSuReg .feedback true .sr1 .my0),
    ([0b001000001100000000100110#24], .macMulUsReg .result false .ax0 .my0),
    ([0b001001001111001100101100#24], .macMulUuReg .feedback true .mx1 .mr1),
    ([0b001001010001001100101101#24], .macAddSsReg .feedback true .mx1 .sr1),
    ([0b001000010010111000100100#24], .macAddSuReg .result false .mr0 .ay0),
    ([0b001001010100110100101011#24], .macAddUsReg .feedback false .sr1 .si),
    ([0b001000010111111100100111#24], .macAddUuReg .result true .sr0 .my1),
    ([0b001001011001111100100001#24], .macSubSsReg .feedback true .sr0 .ax1),
    ([0b001001011010111100100001#24], .macSubSuReg .feedback false .sr0 .ax1),
    ([0b001000011100001100101001#24], .macSubUsReg .result false .mx1 .sr2),
    ([0b001000011110000100101110#24], .macSubUuReg .result false .ax1 .mr0),
    ([0b001000000000000100100001#24], .regNop .result false .ax1 .ax1)] = true := by decide

theorem test_decode_divide_and_saturate : decodeAs [
    ([0b000000111000111000000000#24], .divs .ay1 .sr0),
    ([0b000000111101001000000000#24], .divq .ar),
    ([0b000000110000000000000000#24], .satMr),
    ([0b000000110100000000000000#24], .satSr)] = true := by decide

theorem test_decode_shift : decodeAs [
    ([0b000011100000001100001110#24], .lshiftHi .mx1 .notCe),
    ([0b000011100001111000001110#24], .lshiftHiOr .mr0 .notCe),
    ([0b000011100010000000001010#24], .lshiftLo .ax0 .swcond),
    ([0b000011100011000100000011#24], .lshiftLoOr .ax1 .le),
    ([0b000011100100010100001100#24], .ashiftHi .ay1 .mv),
    ([0b000011100101010000000111#24], .ashiftHiOr .ay0 .notAv),
    ([0b000011100110001000001110#24], .ashiftLo .mx0 .notCe),
    ([0b000011100111111000000011#24], .ashiftLoOr .mr0 .le),
    ([0b000011101000110100001011#24], .normHi .sr1 .notSwcond),
    ([0b000011101001010100000000#24], .normHiOr .ay1 .eq),
    ([0b000011101010011100001110#24], .normLo .my1 .notCe),
    ([0b000011101011101100000100#24], .normLoOr .si .lt),
    ([0b000011101100001100001111#24], .expHi .mx1 .always),
    ([0b000011101101001100001101#24], .expHix .mx1 .notMv),
    ([0b000011101110111100000010#24], .expLo .sr0 .gt),
    ([0b000011101111000000000110#24], .expAdj .ax0 .av)] = true := by decide

theorem test_decode_shift_immediate : decodeAs [
    ([0b000011110000110000100110#24], .lshiftHiImm .mr1 0x26#8),
    ([0b000011110001111011100000#24], .lshiftHiOrImm .mr0 0xE0#8),
    ([0b000011110010010111110111#24], .lshiftLoImm .ay1 0xF7#8),
    ([0b000011110011100011011000#24], .lshiftLoOrImm .mr2 0xD8#8),
    ([0b000011110100000100010011#24], .ashiftHiImm .ax1 0x13#8),
    ([0b000011110101111111010011#24], .ashiftHiOrImm .sr0 0xD3#8),
    ([0b000011110110110000011010#24], .ashiftLoImm .mr1 0x1A#8),
    ([0b000011110111010011011110#24], .ashiftLoOrImm .ay0 0xDE#8)] = true := by decide

theorem test_decode_multifunction : decodeAs [
    ([0b110111111000111100001010#24], .dualCompute (.alu .and .ay1 .sr1) .ay1 .mx1 .s0 .s0 .s2 .s2),
    ([0b110100000001110000011111#24], .dualRead 0x1C#5 .ay1 .ax0 .s0 .s1 .s3 .s3),
    ([0b011100000001101010010111#24], .computeRead .dag2 .result (.mac (.nop 0x1A#5)) .sr2 .s1 .s3),
    ([0b011110110011000110101011#24], .computeWrite .dag2 .result (.alu .rsub .af .ax1) .ar .s2 .s3),
    ([0b001010100001111010100000#24], .computeMove .result (.alu .pass .zero .sr0) .ar .ax0),
    ([0b001010101000010010101010#24], .noneAlu .result .notY .ay0 .mr1),
    ([0b001010011111111010101010#24], .noneMac .result (.mac .sub .uu .zero .sr0)),
    ([0b000100101111001101100101#24], .shiftRead .dag1 .expAdj .mr0 .my0 .s1 .s1),
    ([0b000100110000111101100101#24], .shiftWrite .dag2 .lshiftHi .sr1 .my0 .s1 .s1),
    ([0b000101000000111000100010#24], .shiftMove .lshiftHi .mr0 .mx0 .mx0)] = true := by decide

theorem test_decode_moves : decodeAs [
    ([0b000011010000000000010001#24], .moveReg (.g0 .ax1) (.g0 .ax1)),
    ([0b101010010000001101001100#24], .loadDagDirect 0x9034#16 (.m .dag2 .s0)),
    ([0b101100000001110100011110#24], .storeDagDirect 0x1D1#16 (.m .dag2 .s2)),
    ([0b100001110000001011001101#24], .loadDregDirect 0x702C#16 .sr1),
    ([0b100110000101100001100100#24], .storeDregDirect 0x8586#16 .ay0),
    ([0b010000010001100111110001#24], .loadDregImm 0x119F#16 .ax1),
    ([0b010111000001000100001100#24], .loadReg1Imm 0xC110#16 .imask),
    ([0b001100011001110111110101#24], .loadReg2Imm 0x19DF#16 .m5),
    ([0b000100000011000100110000#24], .loadReg3Imm 0x313#12 .astat)] = true := by decide

theorem test_decode_memory : decodeAs [
    ([0b000101010100000001101011#24], .dmReadPost .dag1 (.g0 .my0) .s2 .s3),
    ([0b000101010101001100111010#24], .dmWritePost .dag1 (.g3 .lpstackp) .s2 .s2),
    ([0b000101010010000110011001#24], .dmReadPre .dag2 (.g1 .l1) .s2 .s1),
    ([0b000101010001001010011011#24], .dmWritePre .dag1 (.g2 .l5) .s2 .s3),
    ([0b000101011110000001110101#24], .pmReadPost .dag2 (.g0 .my1) .s1 .s1),
    ([0b000101011101000000111000#24], .pmWritePost .dag1 (.g0 .mx1) .s2 .s0),
    ([0b000101011000000010100100#24], .pmReadPre .dag1 (.g0 .ar) .s1 .s0),
    ([0b000101011001000110001111#24], .pmWritePre .dag1 (.g1 .l0) .s3 .s3),
    ([0b000101010111101001101010#24], .dagStorePost .dag2 .dag2 .m .s2 .s2 .s2),
    ([0b000101010001100110000100#24], .dagStorePre .dag1 .dag1 .l .s0 .s1 .s0),
    ([0b000010010010010110000001#24], .immReadPost .dag2 .ay0 0x58#8 .s0),
    ([0b000010010101001101010001#24], .immWritePost .dag1 .ay1 0x35#8 .s0),
    ([0b000010000000001011001011#24], .immReadPre .dag1 .mr1 0x2C#8 .s2),
    ([0b000010000001011101111000#24], .immWritePre .dag1 .ax0 0x77#8 .s2),
    ([0b000001111000011001001100#24, 0b000000110000000000000000#24], .storeImm16 .dag1 .s3 .s0 0x3064#16),
    ([0b000001111100101110110010#24, 0b000001110111010110100000#24], .storeImm24 .dag1 .s0 .s2 0x77BB5A#24),
    ([0b000001101000100101110100#24], .ioRead 0x97#10 .ay0),
    ([0b000001101001011001010000#24], .ioWrite 0x65#10 .ax0),
    ([0b000001100000100000001110#24], .sysRead 0x80#8 .mr0),
    ([0b000001100001101000101001#24], .sysWrite 0xA2#8 .sr2),
    ([0b000000011000000000001111#24], .modify .dag1 .s3 .s3),
    ([0b000000010010010000110000#24], .modifyImm .dag2 0x43#8 .s0)] = true := by decide

theorem test_decode_flow : decodeAs [
    ([0b000101101001101011101110#24], .doUntilCe 0x9AE#12),
    ([0b000101101011000111011111#24], .doForever 0xB1D#12),
    ([0b000110001111001110010011#24], .jumpRel13 false 0xF39#13 .le),
    ([0b000111110111011011110011#24], .jumpRel16 false 0xF76F#16),
    ([0b000111111111111001110111#24], .callRel16 false 0xFFE7#16),
    ([0b000001010000100010000100#24, 0b000011110101001011010000#24], .longJump 0x88F52D#24 .lt),
    ([0b000001010001010010011010#24, 0b000001101010100110110000#24], .longCall 0x496A9B#24 .swcond),
    ([0b000010111000000010100000#24], .jumpInd true .dag1 .swcond .s0),
    ([0b000010110110000011001000#24], .callInd false .dag2 .mv .s2),
    ([0b000010101000000001000000#24], .rts true .lt),
    ([0b000010100100000001110000#24], .rti false false .notAv)] = true := by decide

theorem test_decode_system : decodeAs [
    ([0b000001000000000011100010#24], .stackControl true .pop .keep0 .push),
    ([0b000001000000000001000000#24], .pushPc),
    ([0b000001000000000001100000#24], .popPc),
    ([0b000001000000000000010000#24], .pushLoop),
    ([0b000001000000000000011000#24], .popLoop),
    ([0b000001000000000000000010#24], .pushSts),
    ([0b000001000000000000000011#24], .popSts),
    ([0b000001000000000010000000#24], .flushCache),
    ([0b000001110000000000001100#24], .setInt 0xC#4),
    ([0b000001110000000000101111#24], .clrInt 0xF#4),
    ([0b000000000000000000001000#24], .nop 0x8#4),
    ([0b000000100000000000001001#24], .idle 0x9#4),
    ([0b000011000000110100100000#24], .modeControl .keep0 .keep0 .ena .keep1 .keep0 .dis .keep0 .keep0)] = true := by decide

theorem test_reject_reserved_words : rejectAs [
    (0x110000, .unassigned), (0x170000, .unassigned), (0x028000, .unassigned), (0x03A000, .unassigned),
    (0x03C000, .unassigned), (0x03D800, .unassigned), (0x03E000, .unassigned),
    (0x000100, .blankBits), (0x0D1001, .blankBits), (0x020010, .blankBits), (0x030001, .blankBits),
    (0x0B20F1, .blankBits), (0x040044, .blankBits), (0x07001C, .blankBits), (0x05201F, .blankBits), (0x0A20F0, .blankBits),
    (0x30123C, .reservedRegister), (0x30123D, .reservedRegister), (0x10012C, .reservedRegister),
    (0x10012E, .reservedRegister), (0x0D030D, .reservedRegister), (0x0D08C0, .reservedRegister),
    (0x1553C0, .reservedRegister), (0x0D0C20, .illegalOperand), (0x100552, .illegalOperand),
    (0x160030, .reservedTerm), (0x16003D, .reservedTerm), (0x16000E, .illegalOperand),
    (0x038000, .reservedDivs), (0x039800, .reservedDivs), (0x0F8B03, .reservedShift), (0x0FCB00, .reservedShift),
    (0x20803F, .reservedForm), (0x20881F, .reservedForm), (0x20001F, .reservedForm), (0x22604F, .reservedForm),
    (0x15C806, .blankBits), (0x157811, .illegalOperand), (0x157911, .illegalOperand), (0x157AC1, .illegalOperand),
    (0x157A01, .illegalOperand)] = true := by decide

/-- The host's question numbers a second word's bits from 24 on, and takes the bits above `nbits` as 0. -/
theorem test_table_words :
    decodeTableWord 48 0x02345005001F = some (.longJump 0x012345 .always) ∧
    decodeTableWord 24 0x05001F = some (.longJump 0x010000 .always) ∧ decodeTableWord 24 0x110000 = none := by decide

/-! ## Single steps (spec/95_test_vectors.md section 2, spec/96_test_vectors_part2.md) -/

/-- The start state of the vectors: reset, PC = 0x000400. -/
def start : State := { State.reset with pc := 0x000400 }

/-- `start` with data registers. -/
def withData (r : DataRegs) : State := { start with data := ⟨r, .zero⟩ }

/-- `start` with the registers of the two DAGs. -/
def withDags (a b : DagRegs) : State := { start with dags := ⟨⟨a, b⟩, ⟨.zero, .zero⟩⟩ }

/-- A DAG whose register number 1 of each kind is given, the others 0. -/
def dag (i m l b : Word) : DagRegs := ⟨⟨0, i, 0, 0⟩, ⟨0, m, 0, 0⟩, ⟨0, l, 0, 0⟩, ⟨0, b, 0, 0⟩⟩

/-- The word (or the two words, the second above the first) executed in one step leads to a state with the property. -/
def stepsTo (s : State) (w : Nat) (p : State → Bool) : Bool :=
  match step (s.withFetchWord 48 w) with
  | .next t => p t
  | _ => false

theorem test_add_overflows :
    stepsTo (withData { DataRegs.zero with ax0 := 0x7FFF, ay0 := 1 }) 0x22600F
      (fun t => t.data.primary.ar == 0x8000 && t.astat == 0x006 && t.pc == 0x401) = true := by decide

/-- NONE = AX0 - AF on R249's worked operands, with Z = 0; with Z = 1 the model's choice, the same (log entry 19). -/
theorem test_none_alu :
    let s := withData { DataRegs.zero with ax0 := 5, af := 5, ar := 7 }
    let flagsOnly (t : State) : Bool := t.data == s.data && t.astat == 0x009 && t.pc == 0x401
    stepsTo s 0x2AF0AA flagsOnly = true ∧ stepsTo s 0x2EF0AA flagsOnly = true := by decide

theorem test_subtract_saturates :
    stepsTo { withData { DataRegs.zero with ax0 := 0x7FFF, ay0 := 0xFFFF } with mstat := 0x08 } 0x22E00F
      (fun t => t.data.primary.ar == 0x7FFF && t.astat == 0x004) = true := by decide

theorem test_feedback_is_not_saturated :
    stepsTo { withData { DataRegs.zero with ax0 := 0x7FFF, ay0 := 1 } with mstat := 0x08 } 0x26600F
      (fun t => t.data.primary.af == 0x8000 && t.astat == 0x006) = true := by decide

theorem test_abs_of_the_least_number :
    stepsTo (withData { DataRegs.zero with ax0 := 0x8000 }) 0x23E00F
      (fun t => t.data.primary.ar == 0x8000 && t.astat == 0x016) = true := by decide

theorem test_condition_false_changes_nothing :
    stepsTo (withData { DataRegs.zero with ax1 := 4, ay0 := 9 }) 0x232100
      (fun t => t.data.primary.ar == 0 && t.astat == 0) = true := by decide

theorem test_multiply_unsigned :
    stepsTo (withData { DataRegs.zero with mx0 := 0xFFFF, my0 := 0xFFFF }) 0x20E00F
      (fun t => t.data.primary.mr1 == 0xFFFC && t.data.primary.mr0 == 2 && t.data.primary.mr2 == 1 && t.astat == 0x040)
      = true := by decide

theorem test_round_to_even :
    stepsTo (withData { DataRegs.zero with mr1 := 2, mr0 := 0x8000 }) 0x20580F
      (fun t => t.data.primary.mr1 == 2 && t.data.primary.mr0 == 0) = true := by decide

theorem test_saturate_sr :
    stepsTo (withData { DataRegs.zero with sr2 := 1 }) 0x034000
      (fun t => t.data.primary.sr1 == 0x7FFF && t.data.primary.sr0 == 0xFFFF && t.data.primary.sr2 == 0) = true := by decide

theorem test_divs :
    stepsTo (withData { DataRegs.zero with ay1 := 1, ay0 := 0x8000, ax0 := 0x4000 }) 0x038800
      (fun t => t.data.primary.ay0 == 0 && t.data.primary.af == 3) = true := by decide

theorem test_divq :
    stepsTo { withData { DataRegs.zero with af := 0x8006, ax0 := 0x4000 } with astat := 0x020 } 0x03D000
      (fun t => t.data.primary.af == 0x800C && t.data.primary.ay0 == 0 && t.astat == 0x020) = true := by decide

theorem test_lshift_or_low :
    stepsTo { withData { DataRegs.zero with se := 3, si := 0x765D, sr2 := 0xFFFD, sr1 := 0xB518 } with astat := 0x100 } 0x0E3B0F
      (fun t => t.data.primary.sr0 == 0xB2E8 && t.data.primary.sr1 == 0xB51B && t.astat == 0x100) = true := by decide

theorem test_norm_shifts_in_the_carry :
    stepsTo { withData { DataRegs.zero with ar := 0x4000, se := 1 } with astat := 0x00C } 0x0E8A0F
      (fun t => t.data.primary.sr1 == 0xA000 && t.data.primary.sr2 == 0xFFFF) = true := by decide

theorem test_exp_of_overflow :
    stepsTo { withData { DataRegs.zero with ar := 0x1000 } with astat := 0x004 } 0x0EDA0F
      (fun t => t.data.primary.se == 1 && t.astat == 0x084) = true := by decide

theorem test_exp_low :
    stepsTo { withData { DataRegs.zero with ax0 := 0xFFA2, se := 0xFFF1 } with astat := 0x080 } 0x0EE00F
      (fun t => t.data.primary.se == 0xFFE8) = true := by decide

theorem test_compute_uses_the_old_register :
    stepsTo { withData { DataRegs.zero with ax0 := 1, ay0 := 2, ar := 0x99 } with
        dags := ⟨⟨dag 0x8000 1 0 0, .zero⟩, ⟨.zero, .zero⟩⟩ } 0x6A60A5
      (fun t => t.data.primary.ar == 3 && t.read16 0x008000 == 0x99 && t.dags.primary.dag1.i.q1 == 0x8001) = true := by
  decide

theorem test_move_reads_the_old_register :
    stepsTo (withData { DataRegs.zero with ax0 := 1, ay0 := 2, ar := 0x99 }) 0x2A600A
      (fun t => t.data.primary.ax0 == 0x99 && t.data.primary.ar == 3) = true := by decide

theorem test_load_sign_extends_mr2 :
    stepsTo (withData { DataRegs.zero with mr1 := 0x1111 }) 0x48000C
      (fun t => t.data.primary.mr1 == 0x8000 && t.data.primary.mr2 == 0xFFFF) = true := by decide

theorem test_narrow_register_moves :
    stepsTo { start with astat := 0x155 } 0x0D03A0 (fun t => t.data.primary.ar == 0xFF55) = true ∧
    stepsTo start 0x0D03A2 (fun t => t.data.primary.ar == 0x0055) = true := by decide

theorem test_pm_write_takes_px :
    stepsTo { withDags .zero (dag 0x0100 1 0 0) with px := 0xEF } 0x15F045
      (fun t => t.read24 0x000100 == 0x0000EF && t.dags.primary.dag2.i.q1 == 0x0101) = true := by decide

theorem test_dm_write_to_a_wide_location :
    stepsTo (withData { DataRegs.zero with ar := 0xABCD }) 0x90100A
      (fun t => t.mem.readLoc 0x000100 == 0xABCD00 && t.read16 0x000100 == 0xABCD) = true := by decide

theorem test_dag_store :
    stepsTo (withDags .zero ⟨⟨0x8100, 0x0200, 0, 0⟩, ⟨0, 0xFFFF, 0, 0⟩, .zero, .zero⟩) 0x157A11
      (fun t => t.dags.primary.dag2.i == ⟨0x80FF, 0x8100, 0, 0⟩ && t.read16 0x008100 == 0x0200) = true := by decide

theorem test_immediate_store_of_two_words :
    stepsTo (withDags (dag 0x8000 1 0 0) .zero) 0x012000078345
      (fun t => t.read16 0x008000 == 0x1234 && t.dags.primary.dag1.i.q1 == 0x8001 && t.pc == 0x402) = true := by decide

theorem test_circular_modify :
    stepsTo (withDags .zero (dag 0x8006 3 8 0x8000)) 0x01A005 (fun t => t.dags.primary.dag2.i.q1 == 0x8001) = true ∧
    stepsTo (withDags .zero (dag 0x8001 0xFFFD 8 0x8000)) 0x01A005 (fun t => t.dags.primary.dag2.i.q1 == 0x8006) = true := by
  decide

theorem test_bit_reversed_address :
    stepsTo { withDags (dag 0x0001 2 0 0) .zero with mstat := 0x02, mem := ⟨[(3 * 0xC000, 0x0C), (3 * 0xC000 + 1, 0x0C)]⟩ }
      0x150005 (fun t => t.data.primary.ax0 == 0x0C0C && t.dags.primary.dag1.i.q1 == 1) = true := by decide

theorem test_base_register_write :
    stepsTo { withData { DataRegs.zero with ax0 := 0x8000 } with mstat := 0x40 } 0x061040
      (fun t => t.dags.secondary.dag2.b.q0 == 0x8000 && t.dags.primary.dag2.b.q0 == 0) = true := by decide

theorem test_not_ce_counts_down :
    stepsTo { start with cntr := 1 } 0x18005E (fun t => t.cntr == 0 && t.pc == 0x401) = true ∧
    stepsTo { start with cntr := 3 } 0x18005E (fun t => t.cntr == 2 && t.pc == 0x405) = true := by decide

theorem test_delayed_call :
    stepsTo start 0x1C100C
      (fun t => t.pc == 0x401 && t.pcStack == [0x403] && t.dbpend == some ⟨0x500, 0x403⟩ && t.sstat == 0x54) = true := by decide

theorem test_long_call_return_address :
    stepsTo start 0x02345005101F (fun t => t.pc == 0x012345 && t.pcStack == [0x402]) = true := by decide

theorem test_rti_leaves_the_inner_level :
    stepsTo { start with pcStack := [0x181, 0x123], statusStack := [⟨0x001, 0x01⟩, ⟨0, 0⟩], inService := 0x1020 } 0x0A40F0
      (fun t => t.pc == 0x181 && t.pcStack == [0x123] && t.astat == 1 && t.mstat == 1 && t.inService == 0x1000) = true := by
  decide

theorem test_empty_rts_underflows :
    stepsTo start 0x0A00F0 (fun t => t.irptl == 0x0008 && t.sstat == 0xD5) = true := by decide

theorem test_do_pushes_the_loop :
    stepsTo { start with cntr := 5 } 0x16003E
      (fun t => t.pc == 0x401 && t.loopStack == [⟨0x401, 0x403, false, 5⟩] && t.sstat == 0x45) = true := by decide

theorem test_loop_end_falls_out :
    stepsTo { start with loopStack := [⟨0x3F0, 0x400, false, 1⟩] } 0 (fun t => t.pc == 0x401 && t.loopStack == []) = true ∧
    stepsTo { start with loopStack := [⟨0x3F0, 0x400, false, 2⟩] } 0
      (fun t => t.pc == 0x3F0 && t.loopStack == [⟨0x3F0, 0x400, false, 1⟩]) = true := by decide

/-- R435, R462: POP LOOP writes CNTR, and a directly following IF NOT CE may see the old value or the new one. -/
theorem test_pop_loop_writes_cntr :
    stepsTo { start with cntr := 9, loopStack := [⟨0x401, 0x403, false, 5⟩] } 0x040018
      (fun t => t.cntr == 5 && t.loopStack == [] && t.windows.cntr == ⟨[9], 1⟩ && t.age.windows.cntr == ⟨[], 0⟩) = true := by
  decide

/-- R562: a pop of the empty PC stack sets STKOVERFLOW; for one instruction that bit may still be read 0. -/
theorem test_pop_of_an_empty_stack :
    stepsTo start 0x040060 (fun t => t.sstat == 0xD5 && t.windows.sstat == ⟨0xAA, 0x55, 1⟩ && t.irptl == 8) = true := by decide

/-- R441: in a delay slot a push is refused, and so is a flush; a Type 26 word that does nothing is executed. -/
theorem test_stack_words_in_a_slot :
    let slot (w : Nat) : State := { start.withFetchWord 48 w with dbpend := some ⟨0x500, 0x402⟩ }
    (match step (slot 0x040000) with | .next t => t.pc == 0x401 | _ => false) = true ∧
    (match step (slot 0x040040) with | .refused .delaySlot => true | _ => false) = true ∧
    (match step (slot 0x040080) with | .refused .delaySlot => true | _ => false) = true := by decide

/-- R508, R562: an interrupt taken directly after a stack instruction leaves free, for the routine's first
instruction, what differs from either of the two states before. -/
theorem test_entry_in_an_open_window :
    let s : State := { start with irptl := 1, pcStack := [], windows := { start.windows with sstat := ⟨0, 0x80, 1⟩ } }
    (s.takeInterrupt 0).windows.sstat = ⟨0xAA, 0xD5, 1⟩ ∧ (s.takeInterrupt 0).pcStack = [0x400] := by decide

theorem test_mode_control :
    stepsTo { start with mstat := 0x10 } 0x0C6C00 (fun t => t.mstat == 0x08) = true ∧
    stepsTo start 0x0C0003 (fun t => t.icntl == 0x0020) = true := by decide

theorem test_idle : stepsTo start 0x020005 (fun t => t.idle && t.pc == 0x401) = true := by decide

/-! ## The statements' hypotheses -/

/-- R60's reset state, R551: no window open. -/
theorem witness_settled : Settled State.reset ∧ Settled start := ⟨rfl, rfl⟩

theorem witness_round_trip :
    (Instr.moveReg (.g3 .px) (.g3 .sstat)).wellFormed = true ∧ (Instr.doForever 1).wellFormed = true ∧
    (Instr.dagStorePost .dag2 .dag2 .i .s0 .s1 .s3).wellFormed = true := by decide

theorem witness_completion :
    (Instr.doUntilCe 0xFFF).wellFormed = true ∧ (Instr.doUntilCe 0).wellFormed = false ∧
    (Instr.dmReadPost .dag1 (.g3 .sstat) .s0 .s0).wellFormed = false ∧
    (Instr.dagStorePre .dag1 .dag2 .i .s0 .s1 .s0).wellFormed = false := by decide

/-- The start state with one instruction in place. -/
def placed (s : State) (w : Nat) : State := s.withFetchWord 48 w

theorem witness_step :
    Quiet (placed start 0x22600F) ∧ (placed start 0x22600F).fetchWords = .ok [0x22600F] ∧
    decode [0x22600F] = .ok (.aluAddYop .result .ay0 .ax0 .always, []) ∧
    (placed start 0x22600F).slotRefusal (.aluAddYop .result .ay0 .ax0 .always) = none := by
  refine ⟨⟨rfl, rfl, rfl⟩, rfl, rfl, rfl⟩

/-- The premises of the statement on sequential flow. -/
def flowsOn (s : State) (i : Instr) : Prop :=
  Quiet s ∧ s.fetch = .ok i ∧ s.dbpend = none ∧ ∃ t, exec i s = .next t ∧ t.redirect = none ∧ t.dbpend = none

theorem witness_sequential_flow :
    flowsOn (placed start 0) (.nop 0) ∧
    flowsOn (placed { start with loopStack := [⟨0x3F0, 0x400, false, 1⟩] } 0) (.nop 0) ∧
    flowsOn (placed { start with loopStack := [⟨0x3F0, 0x400, true, 1⟩] } 0) (.nop 0) ∧
    flowsOn (placed { start with loopStack := [⟨0x3F0, 0x400, false, 0⟩] } 0) (.nop 0) ∧
    flowsOn (placed { start with loopStack := [⟨0x3F0, 0x401, false, 1⟩] } 0) (.nop 0) := by
  refine ⟨?_, ?_, ?_, ?_, ?_⟩ <;> exact ⟨⟨rfl, rfl, rfl⟩, rfl, rfl, _, rfl, rfl, rfl⟩

theorem witness_branches :
    (Quiet (placed start 0x18005F) ∧ (placed start 0x18005F).fetch = .ok (.jumpRel13 false 5 .always) ∧
      ∃ t, exec (.jumpRel13 false 5 .always) (placed start 0x18005F) = .next t ∧ t.redirect = some 0x405) ∧
    (Quiet (placed start 0x1A005F) ∧ (placed start 0x1A005F).fetch = .ok (.jumpRel13 true 5 .always) ∧
      ∃ t, exec (.jumpRel13 true 5 .always) (placed start 0x1A005F) = .next t ∧ t.redirect = none ∧
        t.dbpend = some ⟨0x405, 0x403⟩) :=
  ⟨⟨⟨rfl, rfl, rfl⟩, rfl, _, rfl, rfl⟩, ⟨⟨rfl, rfl, rfl⟩, rfl, _, rfl, rfl, rfl⟩⟩

/-- A state in the first (`second = false`) or second slot of a delayed branch, with an instruction in place. -/
def inSlot (second : Bool) (w : Nat) : State :=
  { placed start w with dbpend := some ⟨0x500, if second then 0x401 else 0x402⟩ }

/-- The premises of the statement on delay slots. -/
def slotCase (s : State) (i : Instr) (d : DelayedBranch) : Prop :=
  s.inputs = [] ∧ s.idle = false ∧ s.redirect = none ∧ s.fetch = .ok i ∧ s.dbpend = some d

theorem witness_delay_slots :
    slotCase (inSlot false 0) (.nop 0) ⟨0x500, 0x402⟩ ∧ slotCase (inSlot true 0) (.nop 0) ⟨0x500, 0x401⟩ ∧
    slotCase (inSlot false 0x18005F) (.jumpRel13 false 5 .always) ⟨0x500, 0x402⟩ ∧
    slotCase (inSlot true 0x012000078345) (.storeImm16 .dag1 .s1 .s1 0x1234) ⟨0x500, 0x401⟩ ∧
    slotCase (inSlot false 0x012000078345) (.storeImm16 .dag1 .s1 .s1 0x1234) ⟨0x500, 0x402⟩ := by
  refine ⟨?_, ?_, ?_, ?_, ?_⟩ <;> exact ⟨rfl, rfl, rfl, rfl, rfl⟩

theorem witness_every_step : (placed start 0x22600F).wellFormed = true ∧ ∃ t, step (placed start 0x22600F) = .next t :=
  ⟨by decide, _, rfl⟩

theorem witness_hardware_reset :
    ({ start with inputs := [⟨true, 0, 0x3FFF⟩, ⟨false, 1, 0⟩] } : State).inputs = ⟨true, 0, 0x3FFF⟩ :: [⟨false, 1, 0⟩] := rfl

theorem witness_constants : IsConstant ⟨false, 15⟩ 0x8000 ∧ IsConstant ⟨true, 0⟩ 0xFFFE ∧ IsConstant ⟨false, 0⟩ 1 := by
  unfold IsConstant; decide

theorem witness_conditions :
    start.holds .notCe = false ∧ ({ start with cntr := 1 } : State).holds .notCe = false ∧
    ({ start with cntr := 2 } : State).holds .notCe = true ∧ start.holds .always = true ∧ start.holds .eq = false := by decide

theorem witness_shift_result : shiftResult .lshiftHi (bank start).si start = some 0 := by decide

/-- R311 at the ends of its range: a word of sign bits only, and one with none to spare. -/
theorem witness_exponents :
    IsExponent 0 (-15) ∧ LeadingBits 0 false 16 ∧ IsExponent 0x8000 0 ∧ LeadingBits 0x8000 false 0 ∧ IsExponent 0xFFFF (-15) ∧
    LeadingBits 0xFFFF true 16 ∧ IsExponent 0x0100 (-6) ∧ LeadingBits 0x0100 true 0 := by
  unfold LeadingBits
  refine ⟨⟨15, by decide⟩, by decide, ⟨0, by decide⟩, by decide, ⟨15, by decide⟩, by decide, ⟨6, by decide⟩, by decide⟩

/-- A device with one 24-bit location, one 16-bit location, and no other memory. -/
def smallDevice : State :=
  { start with params := { Params.standard with regions := [⟨0x8000, 0x8000, .w24, 0x5A⟩, ⟨0x8001, 0x8001, .w16, 0x5A⟩] } }

/-- R107's three cases, at the edges of a location's region. -/
theorem witness_memory :
    start.mem.wf = true ∧ smallDevice.mem.wf = true ∧ start.params.width 0x007FFF = some .w24 ∧
    start.params.width 0x008000 = some .w16 ∧ smallDevice.params.width 0x7FFF = none ∧
    smallDevice.params.width 0x8000 = some .w24 ∧ smallDevice.params.width 0x8001 = some .w16 ∧
    smallDevice.params.width 0x8002 = none := by decide

theorem witness_moves :
    content start start (.g0 .ar) = 0 ∧ BitVec.ofInt 16 (0x1FF#9).toInt = 0xFFFF#16 ∧
    BitVec.ofInt 16 start.sstat.toInt = 0x0055#16 := by decide

theorem witness_stored_words :
    Settled (withDags .zero (dag 0x7FFF 1 0 0)) ∧
    (withDags .zero (dag 0x7FFF 1 0 0)).params.width
      (busAddress (withDags .zero (dag 0x7FFF 1 0 0)) .dag2 (idx (withDags .zero (dag 0x7FFF 1 0 0)) .dag2 .s1)) = some .w24 ∧
    ∃ t, exec (.pmWritePost .dag2 (.g3 .sstat) .s1 .s1) (withDags .zero (dag 0x7FFF 1 0 0)) = .next t :=
  ⟨rfl, by decide, _, rfl⟩

/-- A circular buffer of one word at the top of the page, one of 8 words, and one of a whole page, with the greatest steps. -/
theorem witness_circular_buffers :
    ([dag 0xFFFF 1 1 0xFFFF, dag 0xFFFF 0xFFFF 1 0xFFFF, dag 0x8007 8 8 0x8000, dag 0x8000 0xFFF8 8 0x8000,
      dag 0 0x7FFF 0xFFFF 0] : List DagRegs).all (fun d =>
        let s := withDags d .zero
        let b : Int := (bas s .dag1 .s1).toNat
        let l : Int := (len s .dag1 .s1).toNat
        decide (0 < l ∧ b + l ≤ 65536 ∧ b ≤ (idx s .dag1 .s1).toNat ∧ (idx s .dag1 .s1).toNat < b + l ∧
          -l ≤ (mdf s .dag1 .s1).toInt ∧ (mdf s .dag1 .s1).toInt ≤ l)) = true ∧
    ∀ d, ∃ t, exec (.modify .dag1 .s1 .s1) (withDags d .zero) = .next t :=
  ⟨by decide, fun _ => ⟨_, rfl⟩⟩

theorem witness_return_from_interrupt :
    let s : State := { start with pcStack := [0x181], statusStack := [⟨0x001, 0x01⟩], inService := 0x8001 }
    Settled s ∧ s.pcStack = 0x181 :: [] ∧ s.statusStack = ⟨0x001, 0x01⟩ :: [] := ⟨rfl, rfl, rfl⟩

theorem witness_stack_pops :
    let s : State := { start with
      pcStack := [1, 2, 3, 4], loopStack := [⟨1, 2, true, 3⟩], statusStack := [⟨0x1FF, 0x7F⟩], icntl := 0x0400 }
    Settled s ∧ s.pcStack = 1 :: [2, 3, 4] ∧ s.loopStack = ⟨1, 2, true, 3⟩ :: [] ∧ s.statusStack = ⟨0x1FF, 0x7F⟩ :: [] :=
  ⟨rfl, rfl, rfl, rfl⟩

theorem witness_requests :
    let s : State := { start with inputs := [⟨false, 0xFFFF, 0⟩] }
    s.inputs = ⟨false, 0xFFFF, 0⟩ :: [] ∧ (⟨false, 0xFFFF, 0⟩ : HostInput).reset = false := ⟨rfl, rfl⟩

theorem witness_idle :
    let s : State := { start with idle := true }
    s.inputs = [] ∧ s.interruptNow = none ∧ ({ s with irptl := 1 } : State).interruptNow = some 0 := ⟨rfl, rfl, rfl⟩

/-- R249: AR = AR beside a sum that overflows, with AR_SAT on: the flags are those of the unsaturated output. -/
theorem witness_ar_to_ar :
    let s : State := { withData { DataRegs.zero with ax0 := 0x7FFF, ay0 := 1, ar := 5 } with mstat := 0x08 }
    Settled s ∧ stepsTo s 0x2A60AA (fun t => t.astat == 0x006 && t.data.primary.ar == 5) = true ∧
    stepsTo s 0x22600F (fun t => t.astat == 0x004 && t.data.primary.ar == 0x7FFF) = true := by
  refine ⟨rfl, by decide, by decide⟩

/-- R512: PCSTKE set anew at a level mark, at the ends of the two ranges; not between them, and not when it was set. -/
theorem witness_level_latch :
    let s (n : Nat) : State := { start with pcStack := List.replicate n 0 }
    MayLatchLevel (.g1 .icntl) 0x0400 (s 0) ∧ MayLatchLevel (.g1 .icntl) 0x0400 (s 3) ∧
    ¬MayLatchLevel (.g1 .icntl) 0x0400 (s 4) ∧ ¬MayLatchLevel (.g1 .icntl) 0x0400 (s 27) ∧
    MayLatchLevel (.g1 .icntl) 0x0400 (s 28) ∧ ¬MayLatchLevel (.g1 .icntl) 0x0400 { s 0 with icntl := 0x0400 } ∧
    ¬MayLatchLevel (.g1 .imask) 0x0400 (s 0) := by
  unfold MayLatchLevel; decide

/-- A fetch after a store, and after a flush and six more instructions. -/
theorem witness_fetch :
    start.params.width 0x000400 = some .w24 ∧ start.params.width 0x008000 = some .w16 ∧
    (∃ t, exec (.dmWritePost .dag1 (.g0 .ar) .s0 .s0) start = .next t) ∧
    (∃ t, exec (.storeImm24 .dag2 .s0 .s0 0x123456) start = .next t) ∧
    MaySee { start with stale := [⟨0x400, 7, none⟩] } 0x400 7 ∧
    ∃ t, exec .flushCache { start with stale := [⟨0x400, 7, none⟩] } = .next t ∧ t.stale = [⟨0x400, 7, some 7⟩] ∧
      (aged 6 t).stale = [⟨0x400, 7, some 1⟩] ∧ (aged 7 t).stale = [] :=
  ⟨by decide, by decide, ⟨_, rfl⟩, ⟨_, rfl⟩, .inr ⟨_, .head _, rfl, rfl⟩, _, rfl, rfl, rfl, rfl⟩

/-- Every write of a mode or status register that the statement speaks of. -/
theorem witness_mode_writes :
    let s : State := { start with
      pcStack := [0x181], loopStack := [⟨1, 2, true, 3⟩], statusStack := [⟨0x1FF, 0x7F⟩] }
    Settled s ∧
    ([.loadReg3Imm 0xFFF .mstat, .loadReg3Imm 0xFFF .astat, .loadReg3Imm 0xFFF .ccode, .loadReg2Imm 0xFFFF .cntr,
      .loadReg1Imm 0xFFFF .icntl, .loadReg1Imm 0xFFFF .imask, .popSts, .rti false false .always, .popLoop,
      .stackControl false .push .pop .pop, .stackControl true .keep0 .keep1 .keep0, .callRel16 true 0, .rts false .always,
      .doUntilCe 1] : List Instr).all
      (fun i => match exec i s with | .next _ => true | _ => false) = true := by
  refine ⟨rfl, by decide⟩

/-- The first and the last interrupt, with nesting off and on. -/
theorem witness_interrupts :
    let first : State := { start with irptl := 0xFFFF }
    let last : State := { start with irptl := 0x8000, imask := 0x8000, icntl := 0x0020 }
    let nested : State := { start with irptl := 0x0002, icntl := 0x0030, inService := 0x0004 }
    (Settled first ∧ first.inputs = [] ∧ first.interruptNow = some 0 ∧ first.inService.getLsbD 0 = false) ∧
    (Settled last ∧ last.inputs = [] ∧ last.interruptNow = some 15 ∧ last.inService.getLsbD 15 = false) ∧
    (Settled nested ∧ nested.inputs = [] ∧ nested.interruptNow = some 1 ∧ nested.inService.getLsbD 1 = false) ∧
    first.pcStack.length < 33 ∧ first.statusStack.length < 16 ∧ ∃ t, step first = .next t :=
  ⟨⟨rfl, rfl, rfl, rfl⟩, ⟨rfl, rfl, rfl, rfl⟩, ⟨rfl, rfl, rfl, rfl⟩, by decide, by decide, _, rfl⟩

end Sys2Proof.Tests
end

section
/-! SUPPORT and O24. The saturation of an accumulator (spec/41_mac.md R287): the overflow test and the saturated value as
integers, the register files after a write of the bank in use, and the statement SaturateAccumulator. -/

namespace Sys2Proof.Machine

open Sys2Proof.Claims

/-! ## The accumulator as an integer -/

theorem exceeds32_iff (v : Acc40) : exceeds32 v = true ↔ v.toInt < -2 ^ 31 ∨ 2 ^ 31 ≤ v.toInt := by
  simp only [exceeds32, Bool.or_eq_true, decide_eq_true_eq]

/-- Bits 39:31 are mixed exactly when no 32-bit signed number equals the value: the test of R285, R287 and R303. -/
theorem accOverflow_eq_exceeds32 (v : Acc40) : accOverflow v = exceeds32 v := by
  have hv : v.toNat < 2 ^ 40 := v.isLt
  have hint := v.toInt_eq_toNat_cond
  have htop : (v.extractLsb' 31 9).toNat = v.toNat / 2 ^ 31 := by
    rw [BitVec.extractLsb'_toNat, Nat.shiftRight_eq_div_pow]
    omega
  rw [Bool.eq_iff_iff]
  simp only [exceeds32_iff, accOverflow, ne_eq, Bool.and_eq_true, decide_eq_true_eq, ← BitVec.toNat_inj, htop,
    BitVec.reduceToNat]
  split at hint <;> omega

/-- SAT's value (R287): the nearest 32-bit number. -/
theorem saturateAcc_eq_nearest (v : Acc40) :
    saturateAcc v = if 2 ^ 31 ≤ v.toInt then BitVec.ofInt 40 (2 ^ 31 - 1)
      else if v.toInt < -2 ^ 31 then BitVec.ofInt 40 (-2 ^ 31) else v := by
  simp only [saturateAcc, accOverflow_eq_exceeds32, exceeds32_iff, BitVec.msb_eq_toInt, decide_eq_true_eq]
  by_cases hhigh : 2 ^ 31 ≤ v.toInt
  · rw [if_pos (.inr hhigh), if_neg (by omega), if_pos hhigh]
    rfl
  by_cases hlow : v.toInt < -2 ^ 31
  · rw [if_pos (.inl hlow), if_pos (by omega), if_neg hhigh, if_pos hlow]
    rfl
  · rw [if_neg (not_or.mpr ⟨hlow, hhigh⟩), if_neg hhigh, if_neg hlow]

/-- Bits 39:32 of an accumulator are the floor of its value over 2 ^ 32. -/
theorem extractLsb'_top_toInt (v : Acc40) : (v.extractLsb' 32 8).toInt = v.toInt / 2 ^ 32 := by
  have hv : v.toNat < 2 ^ 40 := v.isLt
  have htop : (v.extractLsb' 32 8).toNat = v.toNat / 2 ^ 32 := by
    rw [BitVec.extractLsb'_toNat, Nat.shiftRight_eq_div_pow]
    omega
  rw [BitVec.toInt_eq_toNat_cond, BitVec.toInt_eq_toNat_cond, htop]
  split <;> split <;> omega

/-- A write of an accumulator fills its three registers as R26 says. -/
theorem DataRegs.setAcc_eq_withAcc (r : DataRegs) (z : ResultReg) (v : Acc40) : r.setAcc z v = withAcc r z v := by
  have htop : (v.extractLsb' 32 8).signExtend 16 = BitVec.ofInt 16 (v.toInt / 2 ^ 32) := by
    rw [BitVec.signExtend, extractLsb'_top_toInt]
  cases z <;> simp only [setAcc, withAcc, htop]

/-! ## The register files after a write of the bank in use -/

section SettledState

variable {s : State} (h : Settled s)
include h

theorem State.dataAt_eq_bank (r : Role) : s.dataAt r = bank s := s.dataAt_closed h r

theorem State.bank_updData (r : Role) (f : DataRegs → DataRegs) : bank (s.updData r f) = f (bank s) := by
  rw [bank, updData_mstat, updData_data, secReg_closed h, Banked.get_set_same, dataAt_eq_bank h]

theorem State.otherBank_updData (r : Role) (f : DataRegs → DataRegs) : otherBank (s.updData r f) = otherBank s := by
  rw [otherBank, updData_mstat, updData_data, secReg_closed h, Banked.get_set_other, otherBank]

/-! ## SAT -/

theorem State.bank_satOp (z : ResultReg) :
    bank (s.satOp z)
      = if exceeds32 ((bank s).acc z) then withAcc (bank s) z (saturateAcc ((bank s).acc z)) else bank s := by
  simp only [satOp, dataAt_eq_bank h, accOverflow_eq_exceeds32]
  split
  · rw [bank_updData h, DataRegs.setAcc_eq_withAcc]
  · rfl

theorem State.otherBank_satOp (z : ResultReg) : otherBank (s.satOp z) = otherBank s := by
  simp only [satOp]
  split
  · exact otherBank_updData h _ _
  · rfl

end SettledState

/-- SAT MR and SAT SR complete on every state. -/
theorem exec_sat (z : ResultReg) (s : State) : exec (if z = .result then .satMr else .satSr) s = .next (s.satOp z) := by
  cases z <;> rfl

end Sys2Proof.Machine

namespace Sys2Proof.Claims

open Sys2Proof.Machine

/-- Settles O24: the words decode, and the bank after SAT is the one `bank_satOp` gives, with the overflow test and the
saturated value read as integers. -/
theorem saturateAccumulator : Obligations.SaturateAccumulator := by
  refine ⟨⟨rfl, rfl⟩, fun s h z => ⟨s.satOp z, exec_sat z s, ?_, State.otherBank_satOp h z, s.satOp_frame z⟩⟩
  rw [State.bank_satOp h, saturateAcc_eq_nearest]
  by_cases hhigh : 2 ^ 31 ≤ ((bank s).acc z).toInt
  · simp only [exceeds32_iff, hhigh, or_true, if_true]
  · simp only [exceeds32_iff, hhigh, or_false, if_false]
    split <;> rfl

end Sys2Proof.Claims
end

section
/-! SUPPORT and O35. A load of a data register in a settled state (spec/44_data_move.md R371, R376): the word of Type 6, the
contents of the registers with a code when only data registers change, the whole effect of a load (`moved_loadDreg`), and
the statement ImmediateLoads. -/

namespace Sys2Proof

/-! ## The word of Type 6 (R155) -/

theorem field_type6 (v : BitVec 16) (c : BitVec 4) :
    field (0b0100#4 ++ v ++ c) 20 4 = 4#4 ∧ field (0b0100#4 ++ v ++ c) 4 16 = v ∧ field (0b0100#4 ++ v ++ c) 0 4 = c := by
  simp (disch := omega) only [field, field_append_left, field_append_right, Nat.reduceSub, field_whole, and_self]

theorem decode_type6 (v : BitVec 16) (d : Dreg) : decode [0b0100#4 ++ v ++ d.code] = .ok (.loadDregImm v d, []) := by
  obtain ⟨htype, hdata, hreg⟩ := field_type6 v d.code
  have hone : twoWords (0b0100#4 ++ v ++ d.code) = false := by
    rw [twoWords, htype]
    rfl
  have hfields : decodeFields (0b0100#4 ++ v ++ d.code) 0 = .ok (.loadDregImm v d) := by
    rw [decodeFields, htype, hdata, hreg, Dreg.ofCode_code]
    rfl
  rw [decode, hone, decodeWords, hfields]
  rfl

end Sys2Proof

namespace Sys2Proof.Machine

open Sys2Proof.Claims

/-! ## The registers that a load fills -/

theorem signFill_eq (v : Word) : signFill v = if v.toInt < 0 then 0xFFFF#16 else 0 := by
  simp only [signFill, BitVec.msb_eq_toInt, decide_eq_true_eq]
  rfl

/-- The registers a load moves along are the one that `DataRegs.load` fills with the sign. -/
theorem mem_broughtAlong_g0 (d e : Dreg) :
    Reg.g0 e ∈ broughtAlong (.g0 d) ↔ (d = .mr1 ∧ e = .mr2) ∨ (d = .sr1 ∧ e = .sr2) := by
  cases d <;> simp [broughtAlong]

/-- Only data registers move along with a load of one. -/
theorem broughtAlong_g0_dreg {d : Dreg} {q : Reg} (h : q ∈ broughtAlong (.g0 d)) : ∃ e, q = .g0 e := by
  cases d
  case mr1 => exact ⟨.mr2, List.mem_singleton.mp h⟩
  case sr1 => exact ⟨.sr2, List.mem_singleton.mp h⟩
  all_goals exact absurd h List.not_mem_nil

/-- Bits 39:32 of an accumulator are bits 7:0 of its top register (R26). -/
theorem DataRegs.acc_top (r : DataRegs) (z : ResultReg) :
    (r.acc z).extractLsb' 32 8 = (r.get (if z = .result then .mr2 else .sr2)).extractLsb' 0 8 := by
  cases z <;> simp (disch := omega) only [acc, field_append_left, Nat.reduceSub, field_whole] <;> rfl

/-! ## Contents when only data registers change -/

theorem content_g0 (s t : State) (d : Dreg) : content s t (.g0 d) = (t.data.get (s.mstat.getLsbD 0)).get d := rfl

/-- A register outside group 0 keeps its content under a change of the data registers that leaves SE and SB alone. -/
theorem content_withData {s : State} {b : Banked DataRegs} {q : Reg} (hq : ∀ e, q ≠ .g0 e)
    (hse : (b.get (s.mstat.getLsbD 0)).se = (bank s).se) (hsb : (b.get (s.mstat.getLsbD 0)).sb = (bank s).sb) :
    content s { s with data := b } q = content s s q := by
  rcases q with e | r | r | r
  · exact absurd rfl (hq e)
  · cases r <;> rfl
  · cases r <;> rfl
  · cases r
    case se => exact hse
    case sb => exact hsb
    all_goals rfl

/-! ## A load of a data register -/

section SettledState

variable {s : State} (h : Settled s)
include h

theorem State.bank_loadDreg (r : Role) (d : Dreg) (v : Word) : bank (s.loadDreg r d v) = (bank s).load d v :=
  bank_updData h r _

theorem State.content_loadDreg_g0 (r : Role) (d e : Dreg) (v : Word) :
    content s (s.loadDreg r d v) (.g0 e) = ((bank s).load d v).get e :=
  congrArg (DataRegs.get · e) (bank_loadDreg h r d v)

theorem State.content_loadDreg_ne (r : Role) (d : Dreg) (v : Word) {q : Reg} (hd : q ≠ .g0 d)
    (ha : q ∉ broughtAlong (.g0 d)) : content s (s.loadDreg r d v) q = content s s q := by
  by_cases hq : ∃ e, q = .g0 e
  · obtain ⟨e, rfl⟩ := hq
    have hne : e ≠ d := fun he => hd (congrArg Reg.g0 he)
    rw [content_loadDreg_g0 h, DataRegs.load_get, if_neg hne, if_neg (mt (mem_broughtAlong_g0 d e).mpr ha)]
    rfl
  · have hbank : bank (s.loadDreg r d v) = (bank s).load d v := bank_loadDreg h r d v
    refine content_withData (not_exists.mp hq) ?_ ?_
    · exact (congrArg DataRegs.se hbank).trans (DataRegs.load_se _ _ _)
    · exact (congrArg DataRegs.sb hbank).trans (DataRegs.load_sb _ _ _)

/-- `reg_write` of a data register (R371), by whichever use, is the whole effect of a move into it. -/
theorem State.moved_loadDreg (r : Role) (d : Dreg) (v : Word) : Moved (.g0 d) v s (s.loadDreg r d v) := by
  have hlatch : ¬MayLatchLevel (.g0 d) v s := fun ⟨hicntl, _⟩ => Reg.noConfusion hicntl
  refine ⟨?same, ?along, fun q hd ha _ => content_loadDreg_ne h r d v hd ha, fun _ _ => rfl,
    fun hl => absurd hl hlatch, ?af, otherBank_updData h r _, fun _ => rfl, rfl, rfl⟩
  case same => exact (content_loadDreg_g0 h r d d v).trans (DataRegs.load_get_same _ d v)
  case along =>
    intro q hq
    obtain ⟨e, rfl⟩ := broughtAlong_g0_dreg hq
    have hpair := (mem_broughtAlong_g0 d e).mp hq
    have hne : e ≠ d := by obtain ⟨rfl, rfl⟩ | ⟨rfl, rfl⟩ := hpair <;> decide
    rw [content_loadDreg_g0 h, DataRegs.load_get, if_neg hne, if_pos hpair, signFill_eq]
  case af => exact (congrArg DataRegs.af (bank_loadDreg h r d v)).trans (DataRegs.load_af _ d v)

end SettledState

theorem exec_loadDregImm (v : Word) (d : Dreg) (s : State) :
    exec (.loadDregImm v d) s = .next (s.loadDreg .moveDest d v) := rfl

end Sys2Proof.Machine

namespace Sys2Proof.Claims

open Sys2Proof.Machine

/-- Settles O35: the word reads back field by field, the load's whole effect is `moved_loadDreg`, and the accumulator's top
byte is read from the register just written. -/
theorem immediateLoads : Obligations.ImmediateLoads := by
  refine fun v d => ⟨rfl, decode_type6 v d, fun s h =>
    ⟨s.loadDreg .moveDest d v, exec_loadDregImm v d s, State.moved_loadDreg h .moveDest d v, fun z hz => ?_⟩⟩
  rw [State.bank_loadDreg h, DataRegs.acc_top, ← hz, DataRegs.load_get_same]

end Sys2Proof.Claims
end

section
/-! SUPPORT, O2, O12 and O36. What every instruction answers: refused exactly when an operand is forbidden, the same for two
rows of one word (spec/30_encoding.md section 6, spec/60_exceptions.md R500); and what a read delivers (R107). -/

namespace Sys2Proof.Machine

/-- The meaning completes; or it refuses under one of the three names. -/
def Completes (r : Result) : Prop := ∃ t, r = .next t

def RefusesOperand (r : Result) : Prop :=
  ∃ q, r = .refused q ∧ (q = .readOnlyRegister ∨ q = .dagStoreOperands ∨ q = .loopOffset)

/-- An answer that is decided by the truth of `ok`. -/
def AnswersBy (ok : Bool) (r : Result) : Prop := (ok = true → Completes r) ∧ (ok = false → RefusesOperand r)

theorem answersBy_next {t : State} : AnswersBy true (.next t) := ⟨fun _ => ⟨t, rfl⟩, nofun⟩

theorem answersBy_moveInto (s : State) (r : Reg) : AnswersBy r.writable (s.moveInto r) := by
  unfold State.moveInto
  cases r.writable
  · exact ⟨nofun, fun _ => ⟨_, rfl, .inl rfl⟩⟩
  · exact answersBy_next

theorem answersBy_dagStorePost (g grp : Dag) (k : DagKind) (j i m : Slot) (s : State) :
    AnswersBy (dagStoreAllowed g grp k j i) (execDagStorePost g grp k j i m s) := by
  unfold execDagStorePost
  cases dagStoreAllowed g grp k j i
  · exact ⟨nofun, fun _ => ⟨_, rfl, .inr (.inl rfl)⟩⟩
  · exact answersBy_next

theorem answersBy_dagStorePre (g grp : Dag) (k : DagKind) (j i m : Slot) (s : State) :
    AnswersBy (dagStoreAllowed g grp k j i) (execDagStorePre g grp k j i m s) := by
  unfold execDagStorePre
  cases dagStoreAllowed g grp k j i
  · exact ⟨nofun, fun _ => ⟨_, rfl, .inr (.inl rfl)⟩⟩
  · exact answersBy_next

theorem answersBy_doLoop (s : State) (off : BitVec 12) (forever : Bool) : AnswersBy (off ≠ 0) (s.doLoop off forever) := by
  unfold State.doLoop
  by_cases h : off = 0
  · rw [if_pos h, decide_eq_false fun hne => hne h]
    exact ⟨nofun, fun _ => ⟨_, rfl, .inr (.inr rfl)⟩⟩
  · rw [if_neg h, decide_eq_true h]
    exact answersBy_next

/-- An instruction completes exactly when it is well formed. -/
theorem exec_answersBy (i : Instr) (s : State) : AnswersBy i.wellFormed (exec i s) := by
  cases i
  case moveReg d src => exact answersBy_moveInto _ d
  case loadReg3Imm v r => exact answersBy_moveInto _ (.g3 r)
  case dmReadPost g r i m => exact answersBy_moveInto _ r
  case dmReadPre g r i m => exact answersBy_moveInto _ r
  case pmReadPost g r i m => exact answersBy_moveInto _ r
  case pmReadPre g r i m => exact answersBy_moveInto _ r
  case dagStorePost g grp k j i m => exact answersBy_dagStorePost g grp k j i m s
  case dagStorePre g grp k j i m => exact answersBy_dagStorePre g grp k j i m s
  case doUntilCe off => exact answersBy_doLoop s off false
  case doForever off => exact answersBy_doLoop s off true
  case computeMove z f d src =>
    simp only [exec, execComputeMove]
    split <;> exact answersBy_next
  case sysWrite a d =>
    simp only [exec, execSysWrite]
    split <;> exact answersBy_next
  all_goals exact answersBy_next

end Sys2Proof.Machine

namespace Sys2Proof.Claims

open Sys2Proof.Machine

/-- Settles O12: the answer by the operands is `exec_answersBy`, the frame is `exec_keptBranch`. -/
theorem instructionsCompleteExactlyWhenWellFormed : Obligations.InstructionsCompleteExactlyWhenWellFormed := by
  intro i s
  obtain ⟨hok, hbad⟩ := exec_answersBy i s
  refine ⟨fun hwf => ?_, hbad⟩
  obtain ⟨t, ht⟩ := hok hwf
  have hk := exec_keptBranch i s
  rw [ht] at hk
  exact ⟨t, ht, hk.toKept.pc, hk.toKept.params⟩

/-- Settles O2: the specialised row is the general row on the operands its words fix. -/
theorem sharedWordsHaveOneMeaning : Obligations.SharedWordsHaveOneMeaning := by
  intro i s
  unfold specialise
  split <;> rfl

/-- Settles O36. -/
theorem readsDeliverTheLocation : Obligations.ReadsDeliverTheLocation := by
  intro s a
  constructor
  · intro hw
    simp only [State.read16, State.read24, hw, and_self]
  · intro hw
    simp only [State.read16, State.read24, hw, and_self]

end Sys2Proof.Claims
end

section
/-! SUPPORT, O4 to O11 and O55. The sequencer (spec/45_program_flow.md R431, R440, R441, R451; spec/70_reset_and_hazards.md
R551, R552): what comes before an instruction, its retirement case by case, and that every step keeps a state well formed. -/

namespace Sys2Proof.Machine

/-! ## Instructions as they are retired -/

theorem Instr.size_eq_one_or_two (i : Instr) : i.size = 1 ∨ i.size = 2 := by
  unfold Instr.size
  split <;> simp

/-- What a completed instruction that may stand in a delay slot keeps. -/
theorem exec_next_keptFlow {i : Instr} {s t : State} (hb : Instr.barredFromSlot i = false) (he : exec i s = .next t) :
    KeptFlow s t := by
  have hk := exec_keptFlow i s hb
  rwa [he] at hk

/-- What any completed instruction keeps. -/
theorem exec_next_keptBranch {i : Instr} {s t : State} (he : exec i s = .next t) : KeptBranch s t := by
  have hk := exec_keptBranch i s
  rwa [he] at hk

/-- The loop-end test (R451) changes the loop stacks alone. -/
theorem State.loopCount_frame (s : State) (a : Addr) : s.loopCount a = { s with loopStack := (s.loopCount a).loopStack } := by
  unfold loopCount
  split
  · rfl
  · split
    · rfl
    · split <;> rfl

theorem State.loopCount_length_le (s : State) (a : Addr) : (s.loopCount a).loopStack.length ≤ s.loopStack.length := by
  unfold loopCount
  split
  · exact Nat.le_refl _
  · rename_i e rest hs
    split
    · exact Nat.le_refl _
    · split <;> simp [hs]

section Retire

variable {s t : State} {i : Instr}

theorem State.retire_redirect {a : Addr} (h : t.redirect = some a) : t.retire s i = { t with pc := a, redirect := none } := by
  simp only [retire, h]

theorem State.retire_slot {d : DelayedBranch} (h : t.redirect = none) (hs : s.dbpend = some d) :
    t.retire s i = t.resolveSlots (s.sequential i) := by
  simp only [retire, h, hs]

theorem State.retire_delayed {d : DelayedBranch} (h : t.redirect = none) (hs : s.dbpend = none) (ht : t.dbpend = some d) :
    t.retire s i = { t with pc := s.sequential i } := by
  simp only [retire, h, hs, ht]

theorem State.retire_sequential (h : t.redirect = none) (hs : s.dbpend = none) (ht : t.dbpend = none) :
    t.retire s i = { t.loopCount s.pc with pc := t.loopTarget s.pc (s.sequential i) } := by
  simp only [retire, h, hs, ht]

theorem State.resolveSlots_of_pending {d : DelayedBranch} (h : t.dbpend = some d) (next : Addr) :
    t.resolveSlots next = if next = d.resume then { t with pc := d.target, dbpend := none } else { t with pc := next } := by
  simp only [resolveSlots, h]

end Retire

/-! ## What comes before an instruction -/

section Before

variable {s : State}

theorem State.takeEvent_of_nil (h : s.inputs = []) : s.takeEvent = s := by
  simp only [takeEvent, h]

theorem State.takeEvent_of_cons {e : HostInput} {rest : List HostInput} (h : s.inputs = e :: rest) :
    s.takeEvent = ({ s with inputs := rest }).applyInput e := by
  simp only [takeEvent, h]

theorem State.sequence_of_interrupt {n : Nat} (h : s.interruptNow = some n) :
    s.sequence = .next { s.takeInterrupt n with tick := s.tick + 1 } := by
  simp only [sequence, h]

theorem State.sequence_of_idle (h : s.interruptNow = none) (hi : s.idle = true) :
    s.sequence = .next { s with tick := s.tick + 1 } := by
  simp only [sequence, h, hi, if_true]

theorem State.sequence_of_awake (h : s.interruptNow = none) (hi : s.idle = false) : s.sequence = s.runNext := by
  simp only [sequence, h, hi, Bool.false_eq_true, if_false]

/-- No interrupt is taken while a delayed branch is pending (D33). -/
theorem State.interruptNow_of_pending {d : DelayedBranch} (h : s.dbpend = some d) : s.interruptNow = none := by
  simp only [interruptNow, h]

theorem State.runNext_of_fetch {i : Instr} (h : s.fetch = .ok i) (hr : s.slotRefusal i = none) : s.runNext = s.execute i := by
  simp only [runNext, h, hr]

theorem State.runNext_of_refusal {i : Instr} {r : Refusal} (h : s.fetch = .ok i) (hr : s.slotRefusal i = some r) :
    s.runNext = .refused r := by
  simp only [runNext, h, hr]

theorem State.execute_of_next {i : Instr} {t : State} (h : exec i s = .next t) : s.execute i = .next (t.retire s i).age := by
  simp only [execute, h]

theorem State.slotRefusal_of_none (h : s.dbpend = none) (i : Instr) : s.slotRefusal i = none := by
  simp only [slotRefusal, h]

theorem State.slotRefusal_of_pending {d : DelayedBranch} (h : s.dbpend = some d) (i : Instr) :
    s.slotRefusal i = if Instr.barredFromSlot i then some .delaySlot
      else if i.size = 2 ∧ s.pc ≠ d.resume - 2 then some .delaySlotTwoWords else none := by
  simp only [slotRefusal, h]

/-- A completed step of a running core is a completed instruction, retired and aged. -/
theorem State.runNext_next {u : State} (h : s.runNext = .next u) :
    ∃ i t, s.fetch = .ok i ∧ s.slotRefusal i = none ∧ exec i s = .next t ∧ u = (t.retire s i).age := by
  unfold runNext at h
  split at h
  · cases h
  · rename_i i hf
    split at h
    · cases h
    · rename_i hr
      unfold execute at h
      split at h <;> cases h
      exact ⟨i, _, hf, hr, ‹_›, rfl⟩

end Before

/-! ## Every step keeps the state well formed -/

theorem State.wellFormed_iff (s : State) : s.wellFormed = true ↔
    s.mem.wf = true ∧ s.stacksFit = true ∧ s.slotsFit = true ∧ s.redirect = none := by
  simp only [wellFormed, Bool.and_eq_true, Option.isNone_iff_eq_none, and_assoc]

theorem State.slotsFit_of_none {s : State} (h : s.dbpend = none) : s.slotsFit = true := by
  simp only [slotsFit, h]

theorem State.slotsFit_of_pending {s : State} {d : DelayedBranch} (h : s.dbpend = some d) :
    s.slotsFit = true ↔ s.pc = d.resume - 2 ∨ s.pc = d.resume - 1 := by
  simp only [slotsFit, h, Bool.or_eq_true, beq_iff_eq]

theorem State.slotsFit_withPc {s : State} {d : DelayedBranch} (h : s.dbpend = some d) {pc : Addr}
    (hpc : pc = d.resume - 2 ∨ pc = d.resume - 1) : ({ s with pc := pc } : State).slotsFit = true :=
  (slotsFit_of_pending (s := { s with pc := pc }) h).mpr hpc

theorem State.stacksFit_iff (s : State) : s.stacksFit = true ↔
    s.pcStack.length ≤ 33 ∧ s.loopStack.length ≤ 8 ∧ s.statusStack.length ≤ 16 := by
  simp only [stacksFit, Bool.and_eq_true, decide_eq_true_eq, and_assoc]

theorem State.wellFormed_takeEvent {s : State} (h : s.wellFormed = true) : s.takeEvent.wellFormed = true := by
  obtain ⟨hmem, hfit, hslots, hred⟩ := s.wellFormed_iff.mp h
  rw [wellFormed_iff]
  cases hin : s.inputs with
  | nil =>
    rw [takeEvent_of_nil hin]
    exact ⟨hmem, hfit, hslots, hred⟩
  | cons e rest =>
    rw [takeEvent_of_cons hin, applyInput]
    simp only
    split
    · exact ⟨hmem, rfl, rfl, rfl⟩
    · exact ⟨hmem, hfit, hslots, hred⟩

/-- An interrupt entry: the stacks hold what they can, and no branch is pending. -/
theorem State.wellFormed_takeInterrupt {s : State} {n : Nat} (h : s.wellFormed = true) (hn : s.interruptNow = some n) :
    ({ s.takeInterrupt n with tick := s.tick + 1 } : State).wellFormed = true := by
  obtain ⟨hmem, hfit, -, hred⟩ := s.wellFormed_iff.mp h
  have hk : KeptFlow s (s.pcPush s.pc).stsPush := (KeptFlow.pcPush s _).trans (KeptFlow.stsPush _)
  have hpend : s.dbpend = none := by
    cases hd : s.dbpend with
    | none => rfl
    | some d =>
      rw [interruptNow_of_pending hd] at hn
      cases hn
  rw [wellFormed_iff]
  exact ⟨hk.mem hmem, hk.depths hfit, slotsFit_of_none (hk.dbpend.trans hpend), hk.redirect.trans hred⟩

/-- After an instruction in a slot the pending branch is made, or PC stands in the second slot. -/
theorem State.slotsFit_next {pc : Addr} {d : DelayedBranch} {i : Instr} (hpc : pc = d.resume - 2 ∨ pc = d.resume - 1)
    (htwo : i.size = 2 → pc = d.resume - 2) (hne : pc + BitVec.ofNat 24 i.size ≠ d.resume) :
    pc + BitVec.ofNat 24 i.size = d.resume - 2 ∨ pc + BitVec.ofNat 24 i.size = d.resume - 1 := by
  rcases Instr.size_eq_one_or_two i with h | h <;> rw [h] at hne ⊢
  · bv_omega
  · have := htwo h
    bv_omega

/-- The retirement of a completed instruction leaves a well formed state (R431 steps 4 and 5). -/
theorem State.wellFormed_retire {s t : State} {i : Instr} (h : s.wellFormed = true) (hr : s.slotRefusal i = none)
    (he : exec i s = .next t) : (t.retire s i).wellFormed = true := by
  obtain ⟨hmem, hfit, hslots, hred⟩ := s.wellFormed_iff.mp h
  have hk := exec_next_keptBranch he
  have hmem' := hk.mem hmem
  have hfit' := hk.depths hfit
  rw [wellFormed_iff]
  cases hs : s.dbpend with
  | some d =>
    rw [slotRefusal_of_pending hs] at hr
    have hb : Instr.barredFromSlot i = false := by
      refine eq_false_of_ne_true fun hb => ?_
      rw [if_pos hb] at hr
      cases hr
    have htwo : i.size = 2 → s.pc = d.resume - 2 := by
      refine fun h2 => Decidable.byContradiction fun hpc => ?_
      rw [if_neg (by simp [hb]), if_pos ⟨h2, hpc⟩] at hr
      cases hr
    have hf := exec_next_keptFlow hb he
    have ht : t.dbpend = some d := hf.dbpend.trans hs
    rw [retire_slot (hf.redirect.trans hred) hs, resolveSlots_of_pending ht]
    split
    · exact ⟨hmem', hfit', rfl, hf.redirect.trans hred⟩
    · refine ⟨hmem', hfit', slotsFit_withPc ht ?_, hf.redirect.trans hred⟩
      exact slotsFit_next ((slotsFit_of_pending hs).mp hslots) htwo ‹_›
  | none =>
    rcases hk.flow with ⟨hd, hr'⟩ | ⟨hd, hsome⟩ | ⟨⟨a, hd⟩, hr'⟩
    · have ht := hd.trans hs
      rw [retire_sequential (hr'.trans hred) hs ht, loopCount_frame]
      refine ⟨hmem', ?_, slotsFit_of_none ht, hr'.trans hred⟩
      have hle := t.loopCount_length_le s.pc
      rw [stacksFit_iff] at hfit' ⊢
      exact ⟨hfit'.1, Nat.le_trans hle hfit'.2.1, hfit'.2.2⟩
    · obtain ⟨a, ha⟩ := Option.isSome_iff_exists.mp hsome
      rw [retire_redirect ha]
      exact ⟨hmem', hfit', slotsFit_of_none (hd.trans hs), rfl⟩
    · rw [retire_delayed (hr'.trans hred) hs hd]
      refine ⟨hmem', hfit', slotsFit_withPc hd (.inl ?_), hr'.trans hred⟩
      have hone : i.size = 1 := by
        refine (Instr.size_eq_one_or_two i).resolve_right fun h2 => ?_
        have := (exec_size_two h2 he).symm.trans hd
        rw [hs] at this
        cases this
      simp only [sequential, hone]
      bv_omega

theorem step_wellFormed {s t : State} (h : s.wellFormed = true) (hstep : step s = .next t) : t.wellFormed = true := by
  have hevent := State.wellFormed_takeEvent h
  unfold step at hstep
  generalize s.takeEvent = u at hevent hstep
  cases hn : u.interruptNow with
  | some n =>
    rw [State.sequence_of_interrupt hn] at hstep
    cases hstep
    exact State.wellFormed_takeInterrupt hevent hn
  | none =>
    cases hi : u.idle with
    | true =>
      rw [State.sequence_of_idle hn hi] at hstep
      cases hstep
      exact hevent
    | false =>
      rw [State.sequence_of_awake hn hi] at hstep
      obtain ⟨i, v, -, hr, he, rfl⟩ := State.runNext_next hstep
      exact State.wellFormed_retire hevent hr he

end Sys2Proof.Machine

namespace Sys2Proof.Claims

open Sys2Proof.Machine

/-- Settles O8: the event, the interrupt entry and the retired instruction each keep the four parts. -/
theorem everyStepKeepsTheStateWellFormed : Obligations.EveryStepKeepsTheStateWellFormed :=
  fun _ _ h hstep => step_wellFormed h hstep

/-- Settles O9. -/
theorem theResetStateIsWellFormed : Obligations.TheResetStateIsWellFormed := by
  rw [Obligations.TheResetStateIsWellFormed, State.wellFormed_iff]
  exact ⟨reset_mem_wf, rfl, State.slotsFit_of_none rfl, rfl⟩

/-- Settles O10: the reset state holds its values by definition. -/
theorem resetGivesTheListedValues : Obligations.ResetGivesTheListedValues :=
  ⟨rfl, rfl, rfl, rfl, rfl, rfl, rfl, rfl, rfl, rfl, rfl, rfl, rfl, rfl, rfl, rfl, rfl, rfl⟩

theorem step_of_quiet {s : State} (h : Quiet s) : step s = s.runNext := by
  obtain ⟨hin, hnone, hidle⟩ := h
  rw [step, State.takeEvent_of_nil hin, State.sequence_of_awake hnone hidle]

/-- A quiet step outside a delay slot is the instruction at PC, retired and aged. -/
theorem step_of_quiet_exec {s t : State} {i : Instr} (h : Quiet s) (hf : s.fetch = .ok i) (hr : s.slotRefusal i = none)
    (he : exec i s = .next t) : step s = .next (t.retire s i).age := by
  rw [step_of_quiet h, State.runNext_of_fetch hf hr, State.execute_of_next he]

/-- Settles O4. -/
theorem stepRunsTheDecodedInstruction : Obligations.StepRunsTheDecodedInstruction := by
  intro s ws rest i hq hw hd hr
  have hf : s.fetch = .ok i := by simp only [State.fetch, hw, hd]
  rw [step_of_quiet hq, State.runNext_of_fetch hf hr]
  cases he : exec i s <;> simp only [State.execute, he]

/-- Settles O5: outside slots the retirement is the loop-end test, whose cases are those of the statement. -/
theorem sequentialFlowAndLoopEnds : Obligations.SequentialFlowAndLoopEnds := by
  intro s t i hq hf hs he hred ht
  refine ⟨_, step_of_quiet_exec hq hf (State.slotRefusal_of_none hs i) he, ?_⟩
  rw [State.retire_sequential hred hs ht]
  simp only [State.age_cntr, State.age_mem, State.age_data, State.age_pc, State.age_loopStack]
  rw [State.loopCount_frame]
  refine ⟨rfl, rfl, rfl, ?_⟩
  simp only
  unfold State.loopTarget State.loopCount
  cases hl : t.loopStack with
  | nil => exact ⟨rfl, hl⟩
  | cons e rest =>
    by_cases hpc : s.pc = e.last
    · by_cases hlast : e.forever = false ∧ e.count = 1
      · simp only [hpc, hlast, State.sequential, ne_eq, not_true, if_false, and_self, if_true]
      · simp only [hpc, hlast, ne_eq, not_true, if_false, if_true, and_self]
    · simp only [hpc, hl, State.sequential, ne_eq, not_false_eq_true, if_true, if_false, and_self]

/-- Settles O6. -/
theorem branchesAreMade : Obligations.BranchesAreMade := by
  intro s t i hq hf hs he
  have hstep := step_of_quiet_exec hq hf (State.slotRefusal_of_none hs i) he
  constructor
  · intro a ha
    rw [State.retire_redirect ha] at hstep
    exact ⟨_, hstep, rfl, rfl, rfl⟩
  · intro d hred ht
    rw [State.retire_delayed hred hs ht] at hstep
    exact ⟨_, hstep, rfl, ht, rfl⟩

/-- Settles O7: the slot's refusals, and after an instruction that keeps the pending branch, `resolveSlots`. -/
theorem delaySlotsThenTheBranch : Obligations.DelaySlotsThenTheBranch := by
  intro s i d hin hidle hred hf hd
  have hstep : step s = s.runNext := step_of_quiet ⟨hin, State.interruptNow_of_pending hd, hidle⟩
  have hr := State.slotRefusal_of_pending hd i
  by_cases hb : Instr.barredFromSlot i = true
  · rw [if_pos hb] at hr ⊢
    rw [hstep, State.runNext_of_refusal hf hr]
  rw [if_neg hb] at hr ⊢
  by_cases htwo : i.size = 2 ∧ s.pc ≠ d.resume - 2
  · rw [if_pos htwo] at hr ⊢
    rw [hstep, State.runNext_of_refusal hf hr]
  rw [if_neg htwo] at hr ⊢
  obtain ⟨t, he, -, -⟩ := (instructionsCompleteExactlyWhenWellFormed i s).1 (fetch_wellFormed hf)
  have hk := exec_next_keptFlow (Bool.eq_false_iff.mpr hb) he
  have ht : t.dbpend = some d := hk.dbpend.trans hd
  refine ⟨_, by rw [hstep, State.runNext_of_fetch hf hr, State.execute_of_next he], ?_⟩
  rw [State.retire_slot (hk.redirect.trans hred) hd, State.resolveSlots_of_pending ht]
  by_cases hnext : s.pc + BitVec.ofNat 24 i.size = d.resume
  · rw [State.sequential, if_pos hnext, if_pos hnext]
    exact ⟨rfl, rfl⟩
  · rw [State.sequential, if_neg hnext, if_neg hnext]
    exact ⟨rfl, ht⟩

/-- A hardware reset event puts the reset state in place before anything else (R552). -/
theorem takeEvent_of_reset {s : State} {e : HostInput} {rest : List HostInput} (hin : s.inputs = e :: rest)
    (hr : e.reset = true) : s.takeEvent = ({ s with inputs := rest, pf := e.pf } : State).hardReset := by
  rw [State.takeEvent_of_cons hin, State.applyInput, if_pos hr]

/-- After a hardware reset no interrupt is requested. -/
theorem interruptNow_hardReset (s : State) : s.hardReset.interruptNow = none := by
  have hnone : ∀ n, s.hardReset.serviceable n = false := by
    intro n
    rw [State.serviceable, show s.hardReset.irptl = 0 from rfl, BitVec.ofNat_eq_ofNat, BitVec.getLsbD_zero, Bool.false_and,
      Bool.false_and]
  rw [State.interruptNow, show s.hardReset.dbpend = none from rfl]
  simp [hnone]

theorem sstat_hardReset (s : State) : s.hardReset.sstat = 0x55 := show State.reset.sstat = 0x55 from rfl

/-- Settles O11. -/
theorem hardwareResetAtAnyTime : Obligations.HardwareResetAtAnyTime := by
  intro s e rest hin hr
  have hnone : s.takeEvent.interruptNow = none := by
    rw [takeEvent_of_reset hin hr]
    exact interruptNow_hardReset _
  have hidle : s.takeEvent.idle = false := by
    rw [takeEvent_of_reset hin hr]
    rfl
  have hstep : step s = s.takeEvent.runNext := State.sequence_of_awake hnone hidle
  rw [takeEvent_of_reset hin hr] at hnone hstep ⊢
  exact ⟨rfl, rfl, rfl, sstat_hardReset _, rfl, rfl, rfl, rfl, rfl, rfl, rfl, rfl, rfl, rfl, rfl, rfl, rfl, rfl,
    fun _ => rfl, rfl, rfl,
    hnone, hstep⟩

/-- Settles O55. -/
theorem idleWaits : Obligations.IdleWaits := by
  intro s v
  refine ⟨rfl, fun hin hidle hnone => ?_, fun n hin hn => ?_⟩
  · rw [step, State.takeEvent_of_nil hin, State.sequence_of_idle hnone hidle]
    exact ⟨_, rfl, rfl⟩
  · rw [step, State.takeEvent_of_nil hin, State.sequence_of_interrupt hn]
    exact ⟨_, rfl, rfl⟩

end Sys2Proof.Claims
end

section
/-! SUPPORT, O1 and O3. The decoder reads back what the encoder writes (spec/30_encoding.md R140, R152 to R188): for each
instruction type the dispatch of R142 and the fields of its word, then the rows that share words, then every instruction. -/

namespace Sys2Proof

/-! ## Round trips -/

/-- The statement of O1 for one instruction. -/
def RoundTrips (i : Instr) : Prop :=
  ∀ rest : List Code, i.wellFormed = true → decode (encode i ++ rest) = .ok (specialise i, rest)

/-- A one-word instruction round-trips if the fields of its word are its operands. -/
theorem RoundTrips.ofWord {i : Instr} {w : Code} (he : encode i = [w])
    (h : twoWords w = false ∧ decodeFields w 0 = .ok i) : RoundTrips i := by
  obtain ⟨hone, hfields⟩ := h
  intro rest hwf
  simp only [he, List.singleton_append, decode, hone, decodeWords, hfields, hwf, Bool.false_eq_true, if_false, if_true]
  rfl

/-- A two-word instruction round-trips if the fields of its words are its operands. -/
theorem RoundTrips.ofWords {i : Instr} {w v : Code} (he : encode i = [w, v])
    (h : twoWords w = true ∧ decodeFields w v = .ok i) : RoundTrips i := by
  obtain ⟨htwo, hfields⟩ := h
  intro rest hwf
  simp only [he, List.cons_append, List.nil_append, decode, htwo, decodeWords, hfields, hwf, if_true]
  rfl

/-- A row that is written as a more general row with fixed operands, and is what that row is specialised to. -/
theorem RoundTrips.ofShared {i j : Instr} (h : RoundTrips j) (he : encode i = encode j) (hj : j.wellFormed = true)
    (hs : specialise j = specialise i) : RoundTrips i := by
  intro rest _
  rw [he, h rest hj, hs]

/-- A one-word instruction whose word is a more general row's, with fixed operands, round-trips if the fields of its word
are that row's operands and the row is specialised to it. -/
theorem RoundTrips.ofSharedWord {i j : Instr} {w : Code} (he : encode i = [w])
    (h : twoWords w = false ∧ decodeFields w 0 = .ok j) (hj : j.wellFormed = true) (hs : specialise j = specialise i) :
    RoundTrips i := by
  obtain ⟨hone, hfields⟩ := h
  intro rest _
  simp only [he, List.singleton_append, decode, hone, decodeWords, hfields, hj, hs, Bool.false_eq_true, if_false, if_true]
  rfl

/-! ## Fields -/

/-- The laws of a field of a joined word, as one rewriting rule set. -/
theorem field_laws :
    (∀ {n m : Nat} (x : BitVec n) (y : BitVec m) (lo len : Nat), lo + len ≤ m →
      (x ++ y).extractLsb' lo len = y.extractLsb' lo len) ∧
    (∀ {n m : Nat} (x : BitVec n) (y : BitVec m) (lo len : Nat), m ≤ lo →
      (x ++ y).extractLsb' lo len = x.extractLsb' (lo - m) len) ∧
    (∀ {n : Nat} (x : BitVec n), x.extractLsb' 0 n = x) :=
  ⟨field_append_right, field_append_left, field_whole⟩

/-- Two fields that stand apart in the word, joined to the field they are the parts of. -/
theorem extract_append_extract {w : Nat} (x : BitVec w) (start hi lo : Nat) :
    x.extractLsb' (start + lo) hi ++ x.extractLsb' start lo = x.extractLsb' start (hi + lo) := by
  apply BitVec.eq_of_getLsbD_eq
  intro i hi'
  simp only [BitVec.getLsbD_append, BitVec.getLsbD_extractLsb']
  by_cases h : i < lo
  · simp [h, hi']
  · simp [h, hi', show i - lo < hi by omega, show start + lo + (i - lo) = start + i by omega]

theorem halves16 (x : BitVec 16) : x.extractLsb' 8 8 ++ x.extractLsb' 0 8 = x :=
  (extract_append_extract x 0 8 8).trans (field_whole x)

theorem bytes24 (x : BitVec 24) : x.extractLsb' 16 8 ++ x.extractLsb' 8 8 ++ x.extractLsb' 0 8 = x := by
  rw [extract_append_extract x 8 8 8]
  exact (extract_append_extract x 0 16 8).trans (field_whole x)

theorem parts10 (x : BitVec 10) : x.extractLsb' 8 2 ++ x.extractLsb' 0 8 = x :=
  (extract_append_extract x 0 2 8).trans (field_whole x)

theorem parts16 (x : BitVec 16) : x.extractLsb' 14 2 ++ x.extractLsb' 0 14 = x :=
  (extract_append_extract x 0 2 14).trans (field_whole x)

theorem pageOffset24 (x : BitVec 24) : x.extractLsb' 16 8 ++ x.extractLsb' 0 16 = x :=
  (extract_append_extract x 0 8 16).trans (field_whole x)

theorem parts6 (x : BitVec 6) : x.extractLsb' 5 1 ++ (x.extractLsb' 3 2 ++ x.extractLsb' 0 3) = x := by
  rw [extract_append_extract x 0 2 3]
  exact (extract_append_extract x 0 1 5).trans (field_whole x)

theorem two_bits (x : BitVec 2) : x = 0#2 ∨ x = 1#2 ∨ x = 2#2 ∨ x = 3#2 := by
  revert x
  decide

@[simp] theorem ifBlank_true (i : Instr) : ifBlank true i = .ok i := rfl

theorem MacSel.ofFields_code (f : MacSel) : MacSel.ofFields f.amf4 f.yx = f := by
  cases f with
  | nop yx => rfl
  | mac op fmt y x =>
    simp (disch := omega) only [MacSel.ofFields, amf4, yx, macOfCode_macCode, field_laws, Nat.reduceSub]
    rw [MacYop.ofCode_code, MacXop.ofCode_code]

@[simp] theorem Compute.ofFields_code (f : Compute) : Compute.ofFields f.amf f.yx = f := by
  cases f with
  | alu f y x =>
    simp (disch := omega) only [Compute.ofFields, amf, yx, field_laws, Nat.reduceSub, if_true]
    rw [AluFn.ofCode_code, AluYop.ofCode_code, AluXop.ofCode_code]
  | mac f =>
    simp (disch := omega) only [Compute.ofFields, amf, yx, field_laws, Nat.reduceSub, MacSel.ofFields_code]
    rfl

theorem Compute.ofFields_zero (yx : BitVec 5) : Compute.ofFields 0#5 yx = .mac (.nop yx) := by
  simp [Compute.ofFields, MacSel.ofFields, macOfCode]


/-! ## Types 9 and 9a (R158, R159) -/

theorem encode_aluYop (f : AluFn) (z : ResultReg) (y : AluYop) (x : AluXop) (c : Cond) :
    encode (Instr.aluYop f z y x c)
      = [0b00100#5 ++ z.code ++ (1#1 ++ f.code) ++ y.code ++ x.code ++ 0b0000#4 ++ c.code] := by
  cases f <;> rfl

theorem encode_aluConst (f : AluFn) (z : ResultReg) (k : Const) (x : AluXop) (c : Cond) :
    encode (Instr.aluConst f z k x c) = [0b00100#5 ++ z.code ++ (1#1 ++ f.code) ++ k.n.extractLsb' 2 2 ++ x.code
      ++ k.n.extractLsb' 0 2 ++ bit k.neg ++ 0b1#1 ++ c.code] := by
  cases f <;> rfl

theorem encode_aluReg (f : AluFn) (z : ResultReg) (y0 : Bool) (x y : Dreg) :
    encode (Instr.aluReg f z y0 x y)
      = [0b00100#5 ++ z.code ++ (1#1 ++ f.code) ++ bit y0 ++ x.code ++ 0b0010#4 ++ y.code] := by
  cases f <;> rfl

theorem encode_macYop (op : MacOp) (fmt : MacFmt) (z : ResultReg) (y : MacYop) (x : MacXop) (c : Cond) :
    encode (Instr.macYop op fmt z y x c)
      = [0b00100#5 ++ z.code ++ (0#1 ++ macCode op fmt) ++ y.code ++ x.code ++ 0b0000#4 ++ c.code] := by
  cases op <;> cases fmt <;> rfl

theorem encode_macSq (op : MacOp) (fmt : MacFmt) (z : ResultReg) (x : MacXop) (c : Cond) :
    encode (Instr.macSq op fmt z x c)
      = [0b00100#5 ++ z.code ++ (0#1 ++ macCode op fmt ++ 0b00#2) ++ x.code ++ 0b0001#4 ++ c.code] := by
  cases op <;> cases fmt <;> rfl

theorem encode_macReg (op : MacOp) (fmt : MacFmt) (z : ResultReg) (y0 : Bool) (x y : Dreg) :
    encode (Instr.macReg op fmt z y0 x y)
      = [0b00100#5 ++ z.code ++ (0#1 ++ macCode op fmt) ++ bit y0 ++ x.code ++ 0b0010#4 ++ y.code] := by
  cases op <;> cases fmt <;> rfl

theorem roundTrips_aluYop (f : AluFn) (z : ResultReg) (y : AluYop) (x : AluXop) (c : Cond) :
    RoundTrips (Instr.aluYop f z y x c) := by
  refine .ofWord (encode_aluYop f z y x c) ?_
  simp (disch := omega) only [twoWords, decodeFields, decodeType9, field, flag, field_laws, Nat.reduceSub,
    BitVec.reduceExtractLsb']
  simp

theorem roundTrips_aluConst (f : AluFn) (z : ResultReg) (k : Const) (x : AluXop) (c : Cond) :
    RoundTrips (Instr.aluConst f z k x c) := by
  refine .ofWord (encode_aluConst f z k x c) ?_
  simp (disch := omega) only [twoWords, decodeFields, decodeType9, field, flag, field_laws, field_append_across,
    BitVec.cast_eq, Nat.reduceSub, BitVec.reduceExtractLsb']
  rcases k with ⟨neg, n⟩
  cases neg <;> simp [bit]

theorem roundTrips_aluReg (f : AluFn) (z : ResultReg) (y0 : Bool) (x y : Dreg) :
    RoundTrips (Instr.aluReg f z y0 x y) := by
  refine .ofWord (encode_aluReg f z y0 x y) ?_
  simp (disch := omega) only [twoWords, decodeFields, decodeType9, field, flag, field_laws, Nat.reduceSub,
    BitVec.reduceExtractLsb']
  simp

theorem roundTrips_macYop (op : MacOp) (fmt : MacFmt) (z : ResultReg) (y : MacYop) (x : MacXop) (c : Cond) :
    RoundTrips (Instr.macYop op fmt z y x c) := by
  refine .ofWord (encode_macYop op fmt z y x c) ?_
  simp (disch := omega) only [twoWords, decodeFields, decodeType9, field, flag, field_laws, Nat.reduceSub,
    BitVec.reduceExtractLsb']
  simp

theorem roundTrips_macSq (op : MacOp) (fmt : MacFmt) (z : ResultReg) (x : MacXop) (c : Cond) :
    RoundTrips (Instr.macSq op fmt z x c) := by
  refine .ofWord (encode_macSq op fmt z x c) ?_
  simp (disch := omega) only [twoWords, decodeFields, decodeType9, field, flag, field_laws, Nat.reduceSub,
    BitVec.reduceExtractLsb']
  simp

theorem roundTrips_macReg (op : MacOp) (fmt : MacFmt) (z : ResultReg) (y0 : Bool) (x y : Dreg) :
    RoundTrips (Instr.macReg op fmt z y0 x y) := by
  refine .ofWord (encode_macReg op fmt z y0 x y) ?_
  simp (disch := omega) only [twoWords, decodeFields, decodeType9, field, flag, field_laws, Nat.reduceSub,
    BitVec.reduceExtractLsb']
  simp

theorem roundTrips_condNop (zyx : BitVec 6) (c : Cond) :
    RoundTrips (.condNop zyx c) := by
  refine .ofWord rfl ?_
  simp (disch := omega) only [twoWords, decodeFields, decodeType9, field, flag, field_laws, field_append_across,
    BitVec.cast_eq, Nat.reduceSub, BitVec.reduceExtractLsb']
  simp [macOfCode]
  exact parts6 zyx

theorem roundTrips_regNop (z : ResultReg) (y0 : Bool) (x y : Dreg) :
    RoundTrips (.regNop z y0 x y) := by
  refine .ofWord rfl ?_
  simp (disch := omega) only [twoWords, decodeFields, decodeType9, field, flag, field_laws, Nat.reduceSub,
    BitVec.reduceExtractLsb']
  simp [macOfCode]

/-! ## Types 15, 16, 23, 24, 25 (R165, R166, R175 to R177) -/

theorem encode_condShift (f : ShiftFn) (x : Dreg) (c : Cond) :
    encode (Instr.condShift f x c) = [0b00001110#8 ++ f.code ++ x.code ++ 0b0000#4 ++ c.code] := by
  cases f <;> rfl

theorem roundTrips_condShift (f : ShiftFn) (x : Dreg) (c : Cond) :
    RoundTrips (Instr.condShift f x c) := by
  refine .ofWord (encode_condShift f x c) ?_
  simp (disch := omega) only [twoWords, decodeFields, decodeLow, field, flag, field_laws, Nat.reduceSub,
    BitVec.reduceExtractLsb']
  simp

/-- Type 15 of a shift function that has an immediate form. -/
theorem roundTrips_immShift {f : ShiftFn} {x : Dreg} {e : BitVec 8} {i : Instr} (hi : Instr.immShift f x e = .ok i)
    (he : encode i = [0b00001111#8 ++ f.code ++ x.code ++ e]) : RoundTrips i := by
  refine .ofWord he ?_
  simp (disch := omega) only [twoWords, decodeFields, decodeLow, field, flag, field_laws, Nat.reduceSub,
    BitVec.reduceExtractLsb']
  simp [hi]

theorem roundTrips_divs (y : DivYop) (x : AluXop) :
    RoundTrips (.divs y x) := by
  refine .ofWord rfl ?_
  simp (disch := omega) only [twoWords, decodeFields, decodeLow, decodeType23to25, field, flag, field_laws, Nat.reduceSub,
    BitVec.reduceExtractLsb']
  simp

theorem roundTrips_divq (x : AluXop) :
    RoundTrips (.divq x) := by
  refine .ofWord rfl ?_
  simp (disch := omega) only [twoWords, decodeFields, decodeLow, decodeType23to25, field, flag, field_laws, Nat.reduceSub,
    BitVec.reduceExtractLsb']
  simp

/-! ## Types 1, 4, 8, 12 and 14 (R152, R154, R157, R162, R164) -/

theorem roundTrips_dualCompute (f : Compute) (pd : PmDest) (dd : DmDest) (pmi pmm dmi dmm : Slot) :
    RoundTrips (.dualCompute f pd dd pmi pmm dmi dmm) := by
  refine .ofWord rfl ?_
  simp (disch := omega) only [twoWords, decodeFields, decodeType1, field, flag, field_laws, field_append_across,
    BitVec.cast_eq, Nat.reduceSub, BitVec.reduceExtractLsb']
  cases pd <;> simp [PmDest.code, PmDest.ofCode]

theorem roundTrips_computeRead (g : Dag) (z : ResultReg) (f : Compute) (d : Dreg) (i m : Slot) :
    RoundTrips (.computeRead g z f d i m) := by
  refine .ofWord rfl ?_
  simp (disch := omega) only [twoWords, decodeFields, decodeType4, field, flag, field_laws, field_append_across,
    BitVec.cast_eq, Nat.reduceSub, BitVec.reduceExtractLsb']
  cases g <;> simp [Dag.code, Dag.ofCode]

theorem roundTrips_computeWrite (g : Dag) (z : ResultReg) (f : Compute) (d : Dreg) (i m : Slot) :
    RoundTrips (.computeWrite g z f d i m) := by
  refine .ofWord rfl ?_
  simp (disch := omega) only [twoWords, decodeFields, decodeType4, field, flag, field_laws, field_append_across,
    BitVec.cast_eq, Nat.reduceSub, BitVec.reduceExtractLsb']
  cases g <;> simp [Dag.code, Dag.ofCode]

theorem roundTrips_computeMove (z : ResultReg) (f : Compute) (d src : Dreg) :
    RoundTrips (.computeMove z f d src) := by
  refine .ofWord rfl ?_
  simp (disch := omega) only [twoWords, decodeFields, decodeType8, field, flag, field_laws, Nat.reduceSub,
    BitVec.reduceExtractLsb']
  simp

theorem roundTrips_shiftRead (g : Dag) (f : ShiftFn) (x : ShiftXop) (d : Dreg) (i m : Slot) :
    RoundTrips (.shiftRead g f x d i m) := by
  refine .ofWord rfl ?_
  simp (disch := omega) only [twoWords, decodeFields, decodeMid, decodeType12, field, flag, field_laws, field_append_across,
    BitVec.cast_eq, Nat.reduceSub, BitVec.reduceExtractLsb']
  cases g <;> simp [Dag.code, Dag.ofCode]

theorem roundTrips_shiftWrite (g : Dag) (f : ShiftFn) (x : ShiftXop) (d : Dreg) (i m : Slot) :
    RoundTrips (.shiftWrite g f x d i m) := by
  refine .ofWord rfl ?_
  simp (disch := omega) only [twoWords, decodeFields, decodeMid, decodeType12, field, flag, field_laws, field_append_across,
    BitVec.cast_eq, Nat.reduceSub, BitVec.reduceExtractLsb']
  cases g <;> simp [Dag.code, Dag.ofCode]

theorem roundTrips_shiftMove (f : ShiftFn) (x d src : Dreg) :
    RoundTrips (.shiftMove f x d src) := by
  refine .ofWord rfl ?_
  simp (disch := omega) only [twoWords, decodeFields, decodeMid, field, flag, field_laws, Nat.reduceSub,
    BitVec.reduceExtractLsb']
  simp

/-! ## Rows that share their words with another row (R157, R191, R192) -/

theorem roundTrips_tstBit (z : ResultReg) (n : BitVec 4) (x : AluXop) (c : Cond) :
    RoundTrips (.tstBit z n x c) := by
  refine .ofSharedWord (j := Instr.aluConst .and z ⟨false, n⟩ x c) rfl ?_ rfl rfl
  simp (disch := omega) only [twoWords, decodeFields, decodeType9, field, flag, field_laws, field_append_across,
    BitVec.cast_eq, Nat.reduceSub, BitVec.reduceExtractLsb']
  simp [AluFn.ofCode]

theorem roundTrips_setBit (z : ResultReg) (n : BitVec 4) (x : AluXop) (c : Cond) :
    RoundTrips (.setBit z n x c) := by
  refine .ofSharedWord (j := Instr.aluConst .or z ⟨false, n⟩ x c) rfl ?_ rfl rfl
  simp (disch := omega) only [twoWords, decodeFields, decodeType9, field, flag, field_laws, field_append_across,
    BitVec.cast_eq, Nat.reduceSub, BitVec.reduceExtractLsb']
  simp [AluFn.ofCode]

theorem roundTrips_clrBit (z : ResultReg) (n : BitVec 4) (x : AluXop) (c : Cond) :
    RoundTrips (.clrBit z n x c) := by
  refine .ofSharedWord (j := Instr.aluConst .and z ⟨true, n⟩ x c) rfl ?_ rfl rfl
  simp (disch := omega) only [twoWords, decodeFields, decodeType9, field, flag, field_laws, field_append_across,
    BitVec.cast_eq, Nat.reduceSub, BitVec.reduceExtractLsb']
  simp [AluFn.ofCode]

theorem roundTrips_tglBit (z : ResultReg) (n : BitVec 4) (x : AluXop) (c : Cond) :
    RoundTrips (.tglBit z n x c) := by
  refine .ofSharedWord (j := Instr.aluConst .xor z ⟨false, n⟩ x c) rfl ?_ rfl rfl
  simp (disch := omega) only [twoWords, decodeFields, decodeType9, field, flag, field_laws, field_append_across,
    BitVec.cast_eq, Nat.reduceSub, BitVec.reduceExtractLsb']
  simp [AluFn.ofCode]

theorem roundTrips_passZero (z : ResultReg) (x : AluXop) (c : Cond) :
    RoundTrips (.passZero z x c) := by
  refine .ofSharedWord (j := Instr.aluYop .pass z .zero x c) rfl ?_ rfl rfl
  simp (disch := omega) only [twoWords, decodeFields, decodeType9, field, flag, field_laws, field_append_across,
    BitVec.cast_eq, Nat.reduceSub, BitVec.reduceExtractLsb']
  simp [AluFn.ofCode, AluYop.ofCode]

theorem roundTrips_passOne (z : ResultReg) (x : AluXop) (c : Cond) :
    RoundTrips (.passOne z x c) := by
  refine .ofSharedWord (j := Instr.aluYop .inc z .zero x c) rfl ?_ rfl rfl
  simp (disch := omega) only [twoWords, decodeFields, decodeType9, field, flag, field_laws, field_append_across,
    BitVec.cast_eq, Nat.reduceSub, BitVec.reduceExtractLsb']
  simp [AluFn.ofCode, AluYop.ofCode]

theorem roundTrips_passMinusOne (z : ResultReg) (x : AluXop) (c : Cond) :
    RoundTrips (.passMinusOne z x c) := by
  refine .ofSharedWord (j := Instr.aluYop .dec z .zero x c) rfl ?_ rfl rfl
  simp (disch := omega) only [twoWords, decodeFields, decodeType9, field, flag, field_laws, field_append_across,
    BitVec.cast_eq, Nat.reduceSub, BitVec.reduceExtractLsb']
  simp [AluFn.ofCode, AluYop.ofCode]

theorem roundTrips_passXop (z : ResultReg) (x : AluXop) (c : Cond) :
    RoundTrips (.passXop z x c) := by
  refine .ofSharedWord (j := Instr.aluYop .add z .zero x c) rfl ?_ rfl rfl
  simp (disch := omega) only [twoWords, decodeFields, decodeType9, field, flag, field_laws, field_append_across,
    BitVec.cast_eq, Nat.reduceSub, BitVec.reduceExtractLsb']
  simp [AluFn.ofCode, AluYop.ofCode]

theorem roundTrips_negXop (z : ResultReg) (x : AluXop) (c : Cond) :
    RoundTrips (.negXop z x c) := by
  refine .ofSharedWord (j := Instr.aluYop .rsub z .zero x c) rfl ?_ rfl rfl
  simp (disch := omega) only [twoWords, decodeFields, decodeType9, field, flag, field_laws, field_append_across,
    BitVec.cast_eq, Nat.reduceSub, BitVec.reduceExtractLsb']
  simp [AluFn.ofCode, AluYop.ofCode]

theorem roundTrips_clearAcc (z : ResultReg) (x : MacXop) (c : Cond) :
    RoundTrips (.clearAcc z x c) := by
  refine .ofSharedWord (j := Instr.macYop .mul .ss z .zero x c) rfl ?_ rfl rfl
  simp (disch := omega) only [twoWords, decodeFields, decodeType9, field, flag, field_laws, field_append_across,
    BitVec.cast_eq, Nat.reduceSub, BitVec.reduceExtractLsb']
  simp [macOfCode, MacYop.ofCode]

theorem roundTrips_roundAcc (z : ResultReg) (x : MacXop) (c : Cond) :
    RoundTrips (.roundAcc z x c) := by
  refine .ofSharedWord (j := Instr.macYop .add .rnd z .zero x c) rfl ?_ rfl rfl
  simp (disch := omega) only [twoWords, decodeFields, decodeType9, field, flag, field_laws, field_append_across,
    BitVec.cast_eq, Nat.reduceSub, BitVec.reduceExtractLsb']
  simp [macOfCode, MacYop.ofCode]

theorem roundTrips_dualRead (b : BitVec 5) (pd : PmDest) (dd : DmDest) (pmi pmm dmi dmm : Slot) :
    RoundTrips (.dualRead b pd dd pmi pmm dmi dmm) := by
  refine .ofSharedWord (j := .dualCompute (.mac (.nop b)) pd dd pmi pmm dmi dmm) rfl ?_ rfl rfl
  simp (disch := omega) only [twoWords, decodeFields, decodeType1, field, flag, field_laws, field_append_across,
    BitVec.cast_eq, Nat.reduceSub, BitVec.reduceExtractLsb']
  cases pd <;> simp [PmDest.code, PmDest.ofCode] <;> exact Compute.ofFields_zero b

theorem roundTrips_noneAlu (z : ResultReg) (f : AluFn) (y : AluYop) (x : AluXop) :
    RoundTrips (.noneAlu z f y x) := by
  refine .ofSharedWord (j := .computeMove z (.alu f y x) .ar .ar) rfl ?_ rfl rfl
  simp (disch := omega) only [twoWords, decodeFields, decodeType8, field, flag, field_laws, field_append_across,
    BitVec.cast_eq, Nat.reduceSub, BitVec.reduceExtractLsb']
  simp
  exact ⟨Compute.ofFields_code (.alu f y x), rfl⟩

theorem roundTrips_noneMac (z : ResultReg) (f : MacSel) :
    RoundTrips (.noneMac z f) := by
  refine .ofSharedWord (j := .computeMove z (.mac f) .ar .ar) rfl ?_ rfl rfl
  simp (disch := omega) only [twoWords, decodeFields, decodeType8, field, flag, field_laws, field_append_across,
    BitVec.cast_eq, Nat.reduceSub, BitVec.reduceExtractLsb']
  simp
  exact ⟨Compute.ofFields_code (.mac f), rfl⟩

/-! ## Types 3, 6, 7, 7a, 17 and 33 (R153, R155, R156, R167, R184) -/

theorem roundTrips_loadDagDirect (a : BitVec 16) (r : DagReg) :
    RoundTrips (.loadDagDirect a r) := by
  refine .ofWord rfl ?_
  simp (disch := omega) only [twoWords, decodeFields, decodeType3, field, flag, field_laws, Nat.reduceSub,
    BitVec.reduceExtractLsb']
  simp

theorem roundTrips_storeDagDirect (a : BitVec 16) (r : DagReg) :
    RoundTrips (.storeDagDirect a r) := by
  refine .ofWord rfl ?_
  simp (disch := omega) only [twoWords, decodeFields, decodeType3, field, flag, field_laws, Nat.reduceSub,
    BitVec.reduceExtractLsb']
  simp

theorem roundTrips_loadDregDirect (a : BitVec 16) (r : Dreg) :
    RoundTrips (.loadDregDirect a r) := by
  refine .ofWord rfl ?_
  simp (disch := omega) only [twoWords, decodeFields, decodeType3, field, flag, field_laws, Nat.reduceSub,
    BitVec.reduceExtractLsb']
  simp

theorem roundTrips_storeDregDirect (a : BitVec 16) (r : Dreg) :
    RoundTrips (.storeDregDirect a r) := by
  refine .ofWord rfl ?_
  simp (disch := omega) only [twoWords, decodeFields, decodeType3, field, flag, field_laws, Nat.reduceSub,
    BitVec.reduceExtractLsb']
  simp

theorem roundTrips_loadDregImm (v : BitVec 16) (r : Dreg) :
    RoundTrips (.loadDregImm v r) := by
  refine .ofWord rfl ?_
  simp (disch := omega) only [twoWords, decodeFields, field, flag, field_laws, Nat.reduceSub,
    BitVec.reduceExtractLsb']
  simp

theorem roundTrips_loadReg1Imm (v : BitVec 16) (r : Reg1) :
    RoundTrips (.loadReg1Imm v r) := by
  refine .ofWord rfl ?_
  simp (disch := omega) only [twoWords, decodeFields, field, flag, field_laws, Nat.reduceSub,
    BitVec.reduceExtractLsb']
  simp

theorem roundTrips_loadReg2Imm (v : BitVec 16) (r : Reg2) :
    RoundTrips (.loadReg2Imm v r) := by
  refine .ofWord rfl ?_
  simp (disch := omega) only [twoWords, decodeFields, field, flag, field_laws, Nat.reduceSub,
    BitVec.reduceExtractLsb']
  simp

theorem roundTrips_loadReg3Imm (v : BitVec 12) (r : Reg3) :
    RoundTrips (.loadReg3Imm v r) := by
  refine .ofWord rfl ?_
  simp (disch := omega) only [twoWords, decodeFields, decodeMid, field, flag, field_laws, Nat.reduceSub,
    BitVec.reduceExtractLsb']
  simp [Reg.ofCode, withReg]

theorem roundTrips_moveReg (d src : Reg) :
    RoundTrips (.moveReg d src) := by
  refine .ofWord rfl ?_
  simp (disch := omega) only [twoWords, decodeFields, decodeLow, decodeType17, field, flag, field_laws, Nat.reduceSub,
    BitVec.reduceExtractLsb']
  simp

/-! ## Types 32, 32a and 29 (R179, R182, R183) -/

theorem roundTrips_dmReadPost (g : Dag) (r : Reg) (i m : Slot) :
    RoundTrips (.dmReadPost g r i m) := by
  refine .ofWord rfl ?_
  simp (disch := omega) only [twoWords, decodeFields, decodeMid, decodeType32, field, flag, field_laws, Nat.reduceSub,
    BitVec.reduceExtractLsb']
  simp [withReg]

theorem roundTrips_dmWritePost (g : Dag) (r : Reg) (i m : Slot) :
    RoundTrips (.dmWritePost g r i m) := by
  refine .ofWord rfl ?_
  simp (disch := omega) only [twoWords, decodeFields, decodeMid, decodeType32, field, flag, field_laws, Nat.reduceSub,
    BitVec.reduceExtractLsb']
  simp [withReg]

theorem roundTrips_dmReadPre (g : Dag) (r : Reg) (i m : Slot) :
    RoundTrips (.dmReadPre g r i m) := by
  refine .ofWord rfl ?_
  simp (disch := omega) only [twoWords, decodeFields, decodeMid, decodeType32, field, flag, field_laws, Nat.reduceSub,
    BitVec.reduceExtractLsb']
  simp [withReg]

theorem roundTrips_dmWritePre (g : Dag) (r : Reg) (i m : Slot) :
    RoundTrips (.dmWritePre g r i m) := by
  refine .ofWord rfl ?_
  simp (disch := omega) only [twoWords, decodeFields, decodeMid, decodeType32, field, flag, field_laws, Nat.reduceSub,
    BitVec.reduceExtractLsb']
  simp [withReg]

theorem roundTrips_pmReadPost (g : Dag) (r : Reg) (i m : Slot) :
    RoundTrips (.pmReadPost g r i m) := by
  refine .ofWord rfl ?_
  simp (disch := omega) only [twoWords, decodeFields, decodeMid, decodeType32, field, flag, field_laws, Nat.reduceSub,
    BitVec.reduceExtractLsb']
  simp [withReg]

theorem roundTrips_pmWritePost (g : Dag) (r : Reg) (i m : Slot) :
    RoundTrips (.pmWritePost g r i m) := by
  refine .ofWord rfl ?_
  simp (disch := omega) only [twoWords, decodeFields, decodeMid, decodeType32, field, flag, field_laws, Nat.reduceSub,
    BitVec.reduceExtractLsb']
  simp [withReg]

theorem roundTrips_pmReadPre (g : Dag) (r : Reg) (i m : Slot) :
    RoundTrips (.pmReadPre g r i m) := by
  refine .ofWord rfl ?_
  simp (disch := omega) only [twoWords, decodeFields, decodeMid, decodeType32, field, flag, field_laws, Nat.reduceSub,
    BitVec.reduceExtractLsb']
  simp [withReg]

theorem roundTrips_pmWritePre (g : Dag) (r : Reg) (i m : Slot) :
    RoundTrips (.pmWritePre g r i m) := by
  refine .ofWord rfl ?_
  simp (disch := omega) only [twoWords, decodeFields, decodeMid, decodeType32, field, flag, field_laws, Nat.reduceSub,
    BitVec.reduceExtractLsb']
  simp [withReg]

theorem roundTrips_dagStorePost (g grp : Dag) (k : DagKind) (j i m : Slot) :
    RoundTrips (.dagStorePost g grp k j i m) := by
  refine .ofWord rfl ?_
  simp (disch := omega) only [twoWords, decodeFields, decodeMid, decodeType32a, field, flag, field_laws, Nat.reduceSub,
    BitVec.reduceExtractLsb']
  cases grp <;> simp [Dag.groupCode]

theorem roundTrips_dagStorePre (g grp : Dag) (k : DagKind) (j i m : Slot) :
    RoundTrips (.dagStorePre g grp k j i m) := by
  refine .ofWord rfl ?_
  simp (disch := omega) only [twoWords, decodeFields, decodeMid, decodeType32a, field, flag, field_laws, Nat.reduceSub,
    BitVec.reduceExtractLsb']
  cases grp <;> simp [Dag.groupCode]

theorem roundTrips_immReadPost (g : Dag) (d : Dreg) (n : BitVec 8) (i : Slot) :
    RoundTrips (.immReadPost g d n i) := by
  refine .ofWord rfl ?_
  simp (disch := omega) only [twoWords, decodeFields, decodeLow, decodeType29, field, flag, field_laws, Nat.reduceSub,
    BitVec.reduceExtractLsb']
  simp

theorem roundTrips_immWritePost (g : Dag) (d : Dreg) (n : BitVec 8) (i : Slot) :
    RoundTrips (.immWritePost g d n i) := by
  refine .ofWord rfl ?_
  simp (disch := omega) only [twoWords, decodeFields, decodeLow, decodeType29, field, flag, field_laws, Nat.reduceSub,
    BitVec.reduceExtractLsb']
  simp

theorem roundTrips_immReadPre (g : Dag) (d : Dreg) (n : BitVec 8) (i : Slot) :
    RoundTrips (.immReadPre g d n i) := by
  refine .ofWord rfl ?_
  simp (disch := omega) only [twoWords, decodeFields, decodeLow, decodeType29, field, flag, field_laws, Nat.reduceSub,
    BitVec.reduceExtractLsb']
  simp

theorem roundTrips_immWritePre (g : Dag) (d : Dreg) (n : BitVec 8) (i : Slot) :
    RoundTrips (.immWritePre g d n i) := by
  refine .ofWord rfl ?_
  simp (disch := omega) only [twoWords, decodeFields, decodeLow, decodeType29, field, flag, field_laws, Nat.reduceSub,
    BitVec.reduceExtractLsb']
  simp

/-! ## Types 22, 22a, 34, 35, 21 and 21a (R171 to R174, R185, R186) -/

theorem roundTrips_storeImm16 (g : Dag) (i m : Slot) (v : BitVec 16) :
    RoundTrips (.storeImm16 g i m v) := by
  refine .ofWords rfl ?_
  simp (disch := omega) only [twoWords, decodeFields, decodeLow, decodeType22, field, flag, field_laws, Nat.reduceSub,
    BitVec.reduceExtractLsb']
  simp [halves16]

theorem roundTrips_storeImm24 (g : Dag) (i m : Slot) (v : BitVec 24) :
    RoundTrips (.storeImm24 g i m v) := by
  refine .ofWords rfl ?_
  simp (disch := omega) only [twoWords, decodeFields, decodeLow, decodeType22, field, flag, field_laws, Nat.reduceSub,
    BitVec.reduceExtractLsb']
  simp [bytes24]

theorem roundTrips_ioRead (a : BitVec 10) (d : Dreg) :
    RoundTrips (.ioRead a d) := by
  refine .ofWord rfl ?_
  simp (disch := omega) only [twoWords, decodeFields, decodeLow, decodeType34, field, flag, field_laws, Nat.reduceSub,
    BitVec.reduceExtractLsb']
  simp [parts10]

theorem roundTrips_ioWrite (a : BitVec 10) (d : Dreg) :
    RoundTrips (.ioWrite a d) := by
  refine .ofWord rfl ?_
  simp (disch := omega) only [twoWords, decodeFields, decodeLow, decodeType34, field, flag, field_laws, Nat.reduceSub,
    BitVec.reduceExtractLsb']
  simp [parts10]

theorem roundTrips_sysRead (a : BitVec 8) (d : Dreg) :
    RoundTrips (.sysRead a d) := by
  refine .ofWord rfl ?_
  simp (disch := omega) only [twoWords, decodeFields, decodeLow, decodeType35, field, flag, field_laws, Nat.reduceSub,
    BitVec.reduceExtractLsb']
  simp

theorem roundTrips_sysWrite (a : BitVec 8) (d : Dreg) :
    RoundTrips (.sysWrite a d) := by
  refine .ofWord rfl ?_
  simp (disch := omega) only [twoWords, decodeFields, decodeLow, decodeType35, field, flag, field_laws, Nat.reduceSub,
    BitVec.reduceExtractLsb']
  simp

theorem roundTrips_modify (g : Dag) (i m : Slot) :
    RoundTrips (.modify g i m) := by
  refine .ofWord rfl ?_
  simp (disch := omega) only [twoWords, decodeFields, decodeLow, decodeType21, field, flag, field_laws, Nat.reduceSub,
    BitVec.reduceExtractLsb']
  simp

theorem roundTrips_modifyImm (g : Dag) (n : BitVec 8) (i : Slot) :
    RoundTrips (.modifyImm g n i) := by
  refine .ofWord rfl ?_
  simp (disch := omega) only [twoWords, decodeFields, decodeLow, decodeType21, field, flag, field_laws, Nat.reduceSub,
    BitVec.reduceExtractLsb']
  simp

/-! ## Types 11, 10, 10a, 36, 19 and 20 (R160, R161, R169, R170, R187) -/

theorem roundTrips_doUntilCe (off : BitVec 12) :
    RoundTrips (.doUntilCe off) := by
  refine .ofWord rfl ?_
  simp (disch := omega) only [twoWords, decodeFields, decodeMid, decodeType11, field, flag, field_laws, Nat.reduceSub,
    BitVec.reduceExtractLsb']
  simp

theorem roundTrips_doForever (off : BitVec 12) :
    RoundTrips (.doForever off) := by
  refine .ofWord rfl ?_
  simp (disch := omega) only [twoWords, decodeFields, decodeMid, decodeType11, field, flag, field_laws, Nat.reduceSub,
    BitVec.reduceExtractLsb']
  simp

theorem roundTrips_jumpRel13 (db : Bool) (off : BitVec 13) (c : Cond) :
    RoundTrips (.jumpRel13 db off c) := by
  refine .ofWord rfl ?_
  simp (disch := omega) only [twoWords, decodeFields, decodeMid, field, flag, field_laws, field_append_across,
    BitVec.cast_eq, Nat.reduceSub, BitVec.reduceExtractLsb']
  rcases BitVec.eq_zero_or_eq_one (off.extractLsb' 12 1) with h | h <;> cases db <;> simp [bit, h]

theorem roundTrips_jumpRel16 (db : Bool) (off : BitVec 16) :
    RoundTrips (.jumpRel16 db off) := by
  refine .ofWord rfl ?_
  simp (disch := omega) only [twoWords, decodeFields, decodeMid, decodeType10a, field, flag, field_laws, field_append_across,
    BitVec.cast_eq, Nat.reduceSub, BitVec.reduceExtractLsb']
  rcases two_bits (off.extractLsb' 12 2) with h | h | h | h <;> simp [h, parts16]

theorem roundTrips_callRel16 (db : Bool) (off : BitVec 16) :
    RoundTrips (.callRel16 db off) := by
  refine .ofWord rfl ?_
  simp (disch := omega) only [twoWords, decodeFields, decodeMid, decodeType10a, field, flag, field_laws, field_append_across,
    BitVec.cast_eq, Nat.reduceSub, BitVec.reduceExtractLsb']
  rcases two_bits (off.extractLsb' 12 2) with h | h | h | h <;> simp [h, parts16]

theorem roundTrips_longJump (a : BitVec 24) (c : Cond) :
    RoundTrips (.longJump a c) := by
  refine .ofWords rfl ?_
  simp (disch := omega) only [twoWords, decodeFields, decodeLow, decodeType36, field, flag, field_laws, Nat.reduceSub,
    BitVec.reduceExtractLsb']
  simp [pageOffset24]

theorem roundTrips_longCall (a : BitVec 24) (c : Cond) :
    RoundTrips (.longCall a c) := by
  refine .ofWords rfl ?_
  simp (disch := omega) only [twoWords, decodeFields, decodeLow, decodeType36, field, flag, field_laws, Nat.reduceSub,
    BitVec.reduceExtractLsb']
  simp [pageOffset24]

theorem roundTrips_jumpInd (db : Bool) (g : Dag) (c : Cond) (i : Slot) :
    RoundTrips (.jumpInd db g c i) := by
  refine .ofWord rfl ?_
  simp (disch := omega) only [twoWords, decodeFields, decodeLow, decodeType19, field, flag, field_laws, Nat.reduceSub,
    BitVec.reduceExtractLsb']
  simp

theorem roundTrips_callInd (db : Bool) (g : Dag) (c : Cond) (i : Slot) :
    RoundTrips (.callInd db g c i) := by
  refine .ofWord rfl ?_
  simp (disch := omega) only [twoWords, decodeFields, decodeLow, decodeType19, field, flag, field_laws, Nat.reduceSub,
    BitVec.reduceExtractLsb']
  simp

theorem roundTrips_rts (db : Bool) (c : Cond) :
    RoundTrips (.rts db c) := by
  refine .ofWord rfl ?_
  simp (disch := omega) only [twoWords, decodeFields, decodeLow, decodeType20, field, flag, field_laws, Nat.reduceSub,
    BitVec.reduceExtractLsb']
  simp

theorem roundTrips_rti (db ss : Bool) (c : Cond) :
    RoundTrips (.rti db ss c) := by
  refine .ofWord rfl ?_
  simp (disch := omega) only [twoWords, decodeFields, decodeLow, decodeType20, field, flag, field_laws, Nat.reduceSub,
    BitVec.reduceExtractLsb']
  simp

/-! ## Types 26, 37, 30, 31 and 18 (R168, R178, R180, R181, R188) -/

theorem roundTrips_stackControl (flush : Bool) (pc lp sts : StackField) :
    RoundTrips (.stackControl flush pc lp sts) := by
  refine .ofWord rfl ?_
  simp (disch := omega) only [twoWords, decodeFields, decodeLow, decodeType26, field, flag, field_laws, Nat.reduceSub,
    BitVec.reduceExtractLsb']
  simp

theorem roundTrips_setInt (n : BitVec 4) :
    RoundTrips (.setInt n) := by
  refine .ofWord rfl ?_
  simp (disch := omega) only [twoWords, decodeFields, decodeLow, decodeType37, field, flag, field_laws, Nat.reduceSub,
    BitVec.reduceExtractLsb']
  simp

theorem roundTrips_clrInt (n : BitVec 4) :
    RoundTrips (.clrInt n) := by
  refine .ofWord rfl ?_
  simp (disch := omega) only [twoWords, decodeFields, decodeLow, decodeType37, field, flag, field_laws, Nat.reduceSub,
    BitVec.reduceExtractLsb']
  simp

theorem roundTrips_nop (n : BitVec 4) :
    RoundTrips (.nop n) := by
  refine .ofWord rfl ?_
  simp (disch := omega) only [twoWords, decodeFields, decodeLow, field, flag, field_laws, Nat.reduceSub,
    BitVec.reduceExtractLsb']
  simp

theorem roundTrips_idle (n : BitVec 4) :
    RoundTrips (.idle n) := by
  refine .ofWord rfl ?_
  simp (disch := omega) only [twoWords, decodeFields, decodeLow, field, flag, field_laws, Nat.reduceSub,
    BitVec.reduceExtractLsb']
  simp

theorem roundTrips_modeControl (ti mm sat ol br sr sd int : ModeField) :
    RoundTrips (.modeControl ti mm sat ol br sr sd int) := by
  refine .ofWord rfl ?_
  simp (disch := omega) only [twoWords, decodeFields, decodeLow, decodeType18, field, flag, field_laws, Nat.reduceSub,
    BitVec.reduceExtractLsb']
  simp

/-! ## Every instruction -/

/-- Every instruction round-trips: the families by their function, the second spellings by the row whose words they share
(R157, R178, R191, R192), every other by its type. -/
theorem roundTrips (i : Instr) : RoundTrips i := by
  cases i
  case aluPassYop z y x c => exact roundTrips_aluYop .pass z y x c
  case aluPassConst z k x c => exact roundTrips_aluConst .pass z k x c
  case aluPassReg z y0 x y => exact roundTrips_aluReg .pass z y0 x y
  case aluIncYop z y x c => exact roundTrips_aluYop .inc z y x c
  case aluIncConst z k x c => exact roundTrips_aluConst .inc z k x c
  case aluIncReg z y0 x y => exact roundTrips_aluReg .inc z y0 x y
  case aluAddCYop z y x c => exact roundTrips_aluYop .addC z y x c
  case aluAddCConst z k x c => exact roundTrips_aluConst .addC z k x c
  case aluAddCReg z y0 x y => exact roundTrips_aluReg .addC z y0 x y
  case aluAddYop z y x c => exact roundTrips_aluYop .add z y x c
  case aluAddConst z k x c => exact roundTrips_aluConst .add z k x c
  case aluAddReg z y0 x y => exact roundTrips_aluReg .add z y0 x y
  case aluNotYYop z y x c => exact roundTrips_aluYop .notY z y x c
  case aluNotYConst z k x c => exact roundTrips_aluConst .notY z k x c
  case aluNotYReg z y0 x y => exact roundTrips_aluReg .notY z y0 x y
  case aluNegYop z y x c => exact roundTrips_aluYop .neg z y x c
  case aluNegConst z k x c => exact roundTrips_aluConst .neg z k x c
  case aluNegReg z y0 x y => exact roundTrips_aluReg .neg z y0 x y
  case aluSubBYop z y x c => exact roundTrips_aluYop .subB z y x c
  case aluSubBConst z k x c => exact roundTrips_aluConst .subB z k x c
  case aluSubBReg z y0 x y => exact roundTrips_aluReg .subB z y0 x y
  case aluSubYop z y x c => exact roundTrips_aluYop .sub z y x c
  case aluSubConst z k x c => exact roundTrips_aluConst .sub z k x c
  case aluSubReg z y0 x y => exact roundTrips_aluReg .sub z y0 x y
  case aluDecYop z y x c => exact roundTrips_aluYop .dec z y x c
  case aluDecConst z k x c => exact roundTrips_aluConst .dec z k x c
  case aluDecReg z y0 x y => exact roundTrips_aluReg .dec z y0 x y
  case aluRsubYop z y x c => exact roundTrips_aluYop .rsub z y x c
  case aluRsubConst z k x c => exact roundTrips_aluConst .rsub z k x c
  case aluRsubReg z y0 x y => exact roundTrips_aluReg .rsub z y0 x y
  case aluRsubBYop z y x c => exact roundTrips_aluYop .rsubB z y x c
  case aluRsubBConst z k x c => exact roundTrips_aluConst .rsubB z k x c
  case aluRsubBReg z y0 x y => exact roundTrips_aluReg .rsubB z y0 x y
  case aluNotXYop z y x c => exact roundTrips_aluYop .notX z y x c
  case aluNotXConst z k x c => exact roundTrips_aluConst .notX z k x c
  case aluNotXReg z y0 x y => exact roundTrips_aluReg .notX z y0 x y
  case aluAndYop z y x c => exact roundTrips_aluYop .and z y x c
  case aluAndConst z k x c => exact roundTrips_aluConst .and z k x c
  case aluAndReg z y0 x y => exact roundTrips_aluReg .and z y0 x y
  case aluOrYop z y x c => exact roundTrips_aluYop .or z y x c
  case aluOrConst z k x c => exact roundTrips_aluConst .or z k x c
  case aluOrReg z y0 x y => exact roundTrips_aluReg .or z y0 x y
  case aluXorYop z y x c => exact roundTrips_aluYop .xor z y x c
  case aluXorConst z k x c => exact roundTrips_aluConst .xor z k x c
  case aluXorReg z y0 x y => exact roundTrips_aluReg .xor z y0 x y
  case aluAbsYop z y x c => exact roundTrips_aluYop .abs z y x c
  case aluAbsConst z k x c => exact roundTrips_aluConst .abs z k x c
  case aluAbsReg z y0 x y => exact roundTrips_aluReg .abs z y0 x y
  case macMulRndYop z y x c => exact roundTrips_macYop .mul .rnd z y x c
  case macMulRndSq z x c => exact roundTrips_macSq .mul .rnd z x c
  case macMulRndReg z y0 x y => exact roundTrips_macReg .mul .rnd z y0 x y
  case macAddRndYop z y x c => exact roundTrips_macYop .add .rnd z y x c
  case macAddRndSq z x c => exact roundTrips_macSq .add .rnd z x c
  case macAddRndReg z y0 x y => exact roundTrips_macReg .add .rnd z y0 x y
  case macSubRndYop z y x c => exact roundTrips_macYop .sub .rnd z y x c
  case macSubRndSq z x c => exact roundTrips_macSq .sub .rnd z x c
  case macSubRndReg z y0 x y => exact roundTrips_macReg .sub .rnd z y0 x y
  case macMulSsYop z y x c => exact roundTrips_macYop .mul .ss z y x c
  case macMulSsSq z x c => exact roundTrips_macSq .mul .ss z x c
  case macMulSsReg z y0 x y => exact roundTrips_macReg .mul .ss z y0 x y
  case macMulSuYop z y x c => exact roundTrips_macYop .mul .su z y x c
  case macMulSuSq z x c => exact roundTrips_macSq .mul .su z x c
  case macMulSuReg z y0 x y => exact roundTrips_macReg .mul .su z y0 x y
  case macMulUsYop z y x c => exact roundTrips_macYop .mul .us z y x c
  case macMulUsSq z x c => exact roundTrips_macSq .mul .us z x c
  case macMulUsReg z y0 x y => exact roundTrips_macReg .mul .us z y0 x y
  case macMulUuYop z y x c => exact roundTrips_macYop .mul .uu z y x c
  case macMulUuSq z x c => exact roundTrips_macSq .mul .uu z x c
  case macMulUuReg z y0 x y => exact roundTrips_macReg .mul .uu z y0 x y
  case macAddSsYop z y x c => exact roundTrips_macYop .add .ss z y x c
  case macAddSsSq z x c => exact roundTrips_macSq .add .ss z x c
  case macAddSsReg z y0 x y => exact roundTrips_macReg .add .ss z y0 x y
  case macAddSuYop z y x c => exact roundTrips_macYop .add .su z y x c
  case macAddSuSq z x c => exact roundTrips_macSq .add .su z x c
  case macAddSuReg z y0 x y => exact roundTrips_macReg .add .su z y0 x y
  case macAddUsYop z y x c => exact roundTrips_macYop .add .us z y x c
  case macAddUsSq z x c => exact roundTrips_macSq .add .us z x c
  case macAddUsReg z y0 x y => exact roundTrips_macReg .add .us z y0 x y
  case macAddUuYop z y x c => exact roundTrips_macYop .add .uu z y x c
  case macAddUuSq z x c => exact roundTrips_macSq .add .uu z x c
  case macAddUuReg z y0 x y => exact roundTrips_macReg .add .uu z y0 x y
  case macSubSsYop z y x c => exact roundTrips_macYop .sub .ss z y x c
  case macSubSsSq z x c => exact roundTrips_macSq .sub .ss z x c
  case macSubSsReg z y0 x y => exact roundTrips_macReg .sub .ss z y0 x y
  case macSubSuYop z y x c => exact roundTrips_macYop .sub .su z y x c
  case macSubSuSq z x c => exact roundTrips_macSq .sub .su z x c
  case macSubSuReg z y0 x y => exact roundTrips_macReg .sub .su z y0 x y
  case macSubUsYop z y x c => exact roundTrips_macYop .sub .us z y x c
  case macSubUsSq z x c => exact roundTrips_macSq .sub .us z x c
  case macSubUsReg z y0 x y => exact roundTrips_macReg .sub .us z y0 x y
  case macSubUuYop z y x c => exact roundTrips_macYop .sub .uu z y x c
  case macSubUuSq z x c => exact roundTrips_macSq .sub .uu z x c
  case macSubUuReg z y0 x y => exact roundTrips_macReg .sub .uu z y0 x y
  case lshiftHi x c => exact roundTrips_condShift .lshiftHi x c
  case lshiftHiOr x c => exact roundTrips_condShift .lshiftHiOr x c
  case lshiftLo x c => exact roundTrips_condShift .lshiftLo x c
  case lshiftLoOr x c => exact roundTrips_condShift .lshiftLoOr x c
  case ashiftHi x c => exact roundTrips_condShift .ashiftHi x c
  case ashiftHiOr x c => exact roundTrips_condShift .ashiftHiOr x c
  case ashiftLo x c => exact roundTrips_condShift .ashiftLo x c
  case ashiftLoOr x c => exact roundTrips_condShift .ashiftLoOr x c
  case normHi x c => exact roundTrips_condShift .normHi x c
  case normHiOr x c => exact roundTrips_condShift .normHiOr x c
  case normLo x c => exact roundTrips_condShift .normLo x c
  case normLoOr x c => exact roundTrips_condShift .normLoOr x c
  case expHi x c => exact roundTrips_condShift .expHi x c
  case expHix x c => exact roundTrips_condShift .expHix x c
  case expLo x c => exact roundTrips_condShift .expLo x c
  case expAdj x c => exact roundTrips_condShift .expAdj x c
  case lshiftHiImm x e => exact roundTrips_immShift (f := .lshiftHi) rfl rfl
  case lshiftHiOrImm x e => exact roundTrips_immShift (f := .lshiftHiOr) rfl rfl
  case lshiftLoImm x e => exact roundTrips_immShift (f := .lshiftLo) rfl rfl
  case lshiftLoOrImm x e => exact roundTrips_immShift (f := .lshiftLoOr) rfl rfl
  case ashiftHiImm x e => exact roundTrips_immShift (f := .ashiftHi) rfl rfl
  case ashiftHiOrImm x e => exact roundTrips_immShift (f := .ashiftHiOr) rfl rfl
  case ashiftLoImm x e => exact roundTrips_immShift (f := .ashiftLo) rfl rfl
  case ashiftLoOrImm x e => exact roundTrips_immShift (f := .ashiftLoOr) rfl rfl
  case satMr => exact .ofWord rfl ⟨rfl, rfl⟩
  case satSr => exact .ofWord rfl ⟨rfl, rfl⟩
  case pushPc => exact (roundTrips_stackControl false .push .keep0 .keep0).ofShared rfl rfl rfl
  case popPc => exact (roundTrips_stackControl false .pop .keep0 .keep0).ofShared rfl rfl rfl
  case pushLoop => exact (roundTrips_stackControl false .keep0 .push .keep0).ofShared rfl rfl rfl
  case popLoop => exact (roundTrips_stackControl false .keep0 .pop .keep0).ofShared rfl rfl rfl
  case pushSts => exact (roundTrips_stackControl false .keep0 .keep0 .push).ofShared rfl rfl rfl
  case popSts => exact (roundTrips_stackControl false .keep0 .keep0 .pop).ofShared rfl rfl rfl
  case flushCache => exact (roundTrips_stackControl true .keep0 .keep0 .keep0).ofShared rfl rfl rfl
  case condNop zyx c => exact roundTrips_condNop zyx c
  case regNop z y0 x y => exact roundTrips_regNop z y0 x y
  case divs y x => exact roundTrips_divs y x
  case divq x => exact roundTrips_divq x
  case dualCompute f pd dd pmi pmm dmi dmm => exact roundTrips_dualCompute f pd dd pmi pmm dmi dmm
  case computeRead g z f d i m => exact roundTrips_computeRead g z f d i m
  case computeWrite g z f d i m => exact roundTrips_computeWrite g z f d i m
  case computeMove z f d src => exact roundTrips_computeMove z f d src
  case shiftRead g f x d i m => exact roundTrips_shiftRead g f x d i m
  case shiftWrite g f x d i m => exact roundTrips_shiftWrite g f x d i m
  case shiftMove f x d src => exact roundTrips_shiftMove f x d src
  case tstBit z n x c => exact roundTrips_tstBit z n x c
  case setBit z n x c => exact roundTrips_setBit z n x c
  case clrBit z n x c => exact roundTrips_clrBit z n x c
  case tglBit z n x c => exact roundTrips_tglBit z n x c
  case passZero z x c => exact roundTrips_passZero z x c
  case passOne z x c => exact roundTrips_passOne z x c
  case passMinusOne z x c => exact roundTrips_passMinusOne z x c
  case passXop z x c => exact roundTrips_passXop z x c
  case negXop z x c => exact roundTrips_negXop z x c
  case clearAcc z x c => exact roundTrips_clearAcc z x c
  case roundAcc z x c => exact roundTrips_roundAcc z x c
  case dualRead b pd dd pmi pmm dmi dmm => exact roundTrips_dualRead b pd dd pmi pmm dmi dmm
  case noneAlu z f y x => exact roundTrips_noneAlu z f y x
  case noneMac z f => exact roundTrips_noneMac z f
  case loadDagDirect a r => exact roundTrips_loadDagDirect a r
  case storeDagDirect a r => exact roundTrips_storeDagDirect a r
  case loadDregDirect a r => exact roundTrips_loadDregDirect a r
  case storeDregDirect a r => exact roundTrips_storeDregDirect a r
  case loadDregImm v r => exact roundTrips_loadDregImm v r
  case loadReg1Imm v r => exact roundTrips_loadReg1Imm v r
  case loadReg2Imm v r => exact roundTrips_loadReg2Imm v r
  case loadReg3Imm v r => exact roundTrips_loadReg3Imm v r
  case moveReg d src => exact roundTrips_moveReg d src
  case dmReadPost g r i m => exact roundTrips_dmReadPost g r i m
  case dmWritePost g r i m => exact roundTrips_dmWritePost g r i m
  case dmReadPre g r i m => exact roundTrips_dmReadPre g r i m
  case dmWritePre g r i m => exact roundTrips_dmWritePre g r i m
  case pmReadPost g r i m => exact roundTrips_pmReadPost g r i m
  case pmWritePost g r i m => exact roundTrips_pmWritePost g r i m
  case pmReadPre g r i m => exact roundTrips_pmReadPre g r i m
  case pmWritePre g r i m => exact roundTrips_pmWritePre g r i m
  case dagStorePost g grp k j i m => exact roundTrips_dagStorePost g grp k j i m
  case dagStorePre g grp k j i m => exact roundTrips_dagStorePre g grp k j i m
  case immReadPost g d n i => exact roundTrips_immReadPost g d n i
  case immWritePost g d n i => exact roundTrips_immWritePost g d n i
  case immReadPre g d n i => exact roundTrips_immReadPre g d n i
  case immWritePre g d n i => exact roundTrips_immWritePre g d n i
  case storeImm16 g i m v => exact roundTrips_storeImm16 g i m v
  case storeImm24 g i m v => exact roundTrips_storeImm24 g i m v
  case ioRead a d => exact roundTrips_ioRead a d
  case ioWrite a d => exact roundTrips_ioWrite a d
  case sysRead a d => exact roundTrips_sysRead a d
  case sysWrite a d => exact roundTrips_sysWrite a d
  case modify g i m => exact roundTrips_modify g i m
  case modifyImm g n i => exact roundTrips_modifyImm g n i
  case doUntilCe off => exact roundTrips_doUntilCe off
  case doForever off => exact roundTrips_doForever off
  case jumpRel13 db off c => exact roundTrips_jumpRel13 db off c
  case jumpRel16 db off => exact roundTrips_jumpRel16 db off
  case callRel16 db off => exact roundTrips_callRel16 db off
  case longJump a c => exact roundTrips_longJump a c
  case longCall a c => exact roundTrips_longCall a c
  case jumpInd db g c i => exact roundTrips_jumpInd db g c i
  case callInd db g c i => exact roundTrips_callInd db g c i
  case rts db c => exact roundTrips_rts db c
  case rti db ss c => exact roundTrips_rti db ss c
  case stackControl flush pc lp sts => exact roundTrips_stackControl flush pc lp sts
  case setInt n => exact roundTrips_setInt n
  case clrInt n => exact roundTrips_clrInt n
  case nop n => exact roundTrips_nop n
  case idle n => exact roundTrips_idle n
  case modeControl ti mm sat ol br sr sd int => exact roundTrips_modeControl ti mm sat ol br sr sd int

end Sys2Proof

namespace Sys2Proof.Claims

/-- Settles O1. -/
theorem decodingAnEncodingGivesItBack : Obligations.DecodingAnEncodingGivesItBack := fun i rest hwf =>
  roundTrips i rest hwf

/-- Settles O3: each word is a numeral, which the decoder reads field by field. -/
theorem writtenOutWordsDecode : Obligations.WrittenOutWordsDecode :=
  ⟨rfl, rfl, rfl, rfl, rfl, rfl, rfl, rfl, rfl⟩

end Sys2Proof.Claims
end

section
/-! SUPPORT and O13. Conditions in a settled state (spec/45_program_flow.md R432 to R436): their truth, what evaluating one
changes, and a conditional instruction from its effect. -/

namespace Sys2Proof.Machine

open Sys2Proof.Claims

/-! ## The state after a condition (R433) -/

theorem afterCond_frame (s : State) (c : Cond) : afterCond s c = { s with cntr := (afterCond s c).cntr } := by
  unfold afterCond
  split <;> rfl

theorem afterCond_always (s : State) : afterCond s .always = s := rfl

theorem settled_afterCond {s : State} (h : Settled s) (c : Cond) : Settled (afterCond s c) := by
  rw [afterCond_frame]
  exact h

@[simp] theorem bank_afterCond (s : State) (c : Cond) : bank (afterCond s c) = bank s := by rw [afterCond_frame]; rfl
@[simp] theorem afterCond_astat (s : State) (c : Cond) : (afterCond s c).astat = s.astat := by rw [afterCond_frame]
@[simp] theorem afterCond_mstat (s : State) (c : Cond) : (afterCond s c).mstat = s.mstat := by rw [afterCond_frame]
@[simp] theorem afterCond_icntl (s : State) (c : Cond) : (afterCond s c).icntl = s.icntl := by rw [afterCond_frame]

@[simp] theorem aluXValue_afterCond (s : State) (c : Cond) (x : AluXop) : aluXValue (afterCond s c) x = aluXValue s x := by
  cases x <;> simp only [aluXValue, bank_afterCond]

@[simp] theorem aluYValue_afterCond (s : State) (c : Cond) (y : AluYop) : aluYValue (afterCond s c) y = aluYValue s y := by
  cases y <;> simp only [aluYValue, bank_afterCond]

@[simp] theorem macXValue_afterCond (s : State) (c : Cond) (x : MacXop) : macXValue (afterCond s c) x = macXValue s x := by
  cases x <;> simp only [macXValue, bank_afterCond]

@[simp] theorem macYValue_afterCond (s : State) (c : Cond) (y : MacYop) : macYValue (afterCond s c) y = macYValue s y := by
  cases y <;> simp only [macYValue, bank_afterCond]

@[simp] theorem macValue_afterCond (s : State) (c : Cond) (op : MacOp) (fmt : MacFmt) (z : ResultReg) (x y : Word) :
    macValue op fmt z x y (afterCond s c) = macValue op fmt z x y s := by
  simp only [macValue, bank_afterCond, afterCond_mstat, afterCond_icntl]

section SettledState

variable {s : State} (h : Settled s)
include h

theorem State.evalCond_settled (c : Cond) : s.evalCond c = afterCond s c := by
  cases c
  case notCe => simp only [evalCond, cntrEff_closed h, afterCond, if_true]
  all_goals rfl

theorem State.swcond_settled : (s.swcond = true) ↔
    if s.ccode.toNat = 8 then s.astat.getLsbD 4 = true
    else if s.ccode.toNat = 9 then s.astat.getLsbD 8 = true
    else if s.ccode.toNat < 8 then s.pf.getLsbD s.ccode.toNat = true else s.pf.getLsbD (s.ccode.toNat - 2) = true := by
  simp only [swcond, ccodeEff_closed h, astatEff_closed h, pin]
  by_cases hlow : s.ccode.toNat ≤ 7
  · simp only [if_pos hlow, if_neg (show s.ccode.toNat ≠ 8 by omega), if_neg (show s.ccode.toNat ≠ 9 by omega),
      if_pos (show s.ccode.toNat < 8 by omega)]
  by_cases h8 : s.ccode.toNat = 8
  · simp only [h8, if_true, show ¬8 ≤ 7 by omega, if_false]
  by_cases h9 : s.ccode.toNat = 9
  · simp only [h9, if_true, show ¬9 ≤ 7 by omega, show ¬9 = 8 by omega, if_false]
  · simp only [if_neg hlow, if_neg h8, if_neg h9, if_neg (show ¬s.ccode.toNat < 8 by omega)]

/-- The truth of each condition by the flags (R432 to R434). -/
theorem State.holds_settled (c : Cond) : s.holds c = true ↔ CondTruth s c := by
  have hsw := swcond_settled h
  simp only [holds, astatEff_closed h, cntrEff_closed h, CondTruth]
  cases c
  case swcond => exact hsw
  case notSwcond => simpa only [Bool.not_eq_true', ← Bool.not_eq_true] using not_congr hsw
  case notCe => simp only [decide_eq_true_eq]
  all_goals
    cases s.astat.getLsbD 0 <;> cases s.astat.getLsbD 1 <;> cases s.astat.getLsbD 2 <;> simp

/-- A conditional instruction has the effect `Done` if its action has it on the state after the condition. -/
theorem State.conditionally_of_onCond {i : Instr} {c : Cond} {f : State → State} {Done : State → State → Prop}
    (he : exec i s = .next (s.onCond c f)) (hd : Done (afterCond s c) (f (afterCond s c))) : Conditionally i c s Done := by
  simp only [onCond, evalCond_settled h] at he
  unfold Conditionally
  split
  next hc => exact ⟨f (afterCond s c), by rw [he, if_pos hc], hd⟩
  next hc => rw [he, if_neg hc]

end SettledState

end Sys2Proof.Machine

namespace Sys2Proof.Claims

open Sys2Proof.Machine

/-- Settles O13. -/
theorem conditionsTestTheFlags : Obligations.ConditionsTestTheFlags := fun _ c h =>
  ⟨State.holds_settled h c, State.evalCond_settled h c⟩

end Sys2Proof.Claims
end

section
/-! SUPPORT, O14 to O19. The ALU in a settled state (spec/40_alu.md): the 17-bit sum as an exact sum of integers, each
function's output, overflow and carry, and the whole effect of a function on its operands (`aluDone_aluOp`). -/

namespace Sys2Proof.Machine

open Sys2Proof.Claims

/-! ## The 17-bit sum (R224) -/

theorem asInt_bit (b : Bool) : ((bit b).toNat : Int) = asInt b := by cases b <;> rfl

theorem sum17_toNat (a b : Word) (cin : Bool) : (sum17 a b cin).toNat = a.toNat + b.toNat + (bit cin).toNat := by
  have hc : (bit cin).toNat < 2 := (bit cin).isLt
  have ha := a.isLt
  have hb := b.isLt
  simp only [sum17, BitVec.toNat_add, BitVec.toNat_setWidth]
  omega

/-- The low 16 bits of the sum are the exact sum of the signed operands, modulo 2 ^ 16. -/
theorem sum17_low (a b : Word) (cin : Bool) :
    (sum17 a b cin).setWidth 16 = BitVec.ofInt 16 (a.toInt + b.toInt + asInt cin) := by
  apply BitVec.eq_of_toNat_eq
  rw [BitVec.toNat_setWidth, sum17_toNat, BitVec.toNat_ofInt, ← asInt_bit, BitVec.toInt_eq_toNat_cond,
    BitVec.toInt_eq_toNat_cond]
  have ha := a.isLt
  have hb := b.isLt
  split <;> split <;> omega

/-- Bit 16 of the sum is the carry of the unsigned operands. -/
theorem sum17_carry (a b : Word) (cin : Bool) :
    (sum17 a b cin).getLsbD 16 = decide (65536 ≤ (a.toNat : Int) + b.toNat + asInt cin) := by
  have hmsb : (sum17 a b cin).getLsbD 16 = (sum17 a b cin).msb := (BitVec.msb_eq_getLsbD_last _).symm
  rw [hmsb, BitVec.msb_eq_decide, sum17_toNat, ← asInt_bit]
  exact decide_eq_decide.mpr (by omega)

theorem asInt_bounds (b : Bool) : 0 ≤ asInt b ∧ asInt b ≤ 1 := by cases b <;> decide

/-- Operands of one sign and a result of the other: the exact sum is no 16-bit signed number (R224). -/
theorem sum17_overflow (a b : Word) (cin : Bool) :
    (a.msb == b.msb && ((sum17 a b cin).setWidth 16).msb != a.msb)
      = decide (a.toInt + b.toInt + asInt cin < -32768 ∨ 32767 < a.toInt + b.toInt + asInt cin) := by
  obtain ⟨hc0, hc1⟩ := asInt_bounds cin
  have hr : ((sum17 a b cin).setWidth 16).toInt = (a.toInt + b.toInt + asInt cin).bmod (2 ^ 16) := by
    rw [sum17_low, BitVec.toInt_ofInt]
  have ha := a.le_toInt
  have ha' := a.toInt_lt
  have hb := b.le_toInt
  have hb' := b.toInt_lt
  rw [Bool.eq_iff_iff]
  simp only [BitVec.msb_eq_toInt, hr, Bool.and_eq_true, beq_iff_eq, bne_iff_ne, ne_eq, decide_eq_true_eq,
    decide_eq_decide, Int.bmod_def]
  omega

/-! ## Additions and subtractions -/

theorem addOut_eq (a b : Word) (cin : Bool) : addOut a b cin =
    ⟨BitVec.ofInt 16 (a.toInt + b.toInt + asInt cin),
      decide (a.toInt + b.toInt + asInt cin < -32768 ∨ 32767 < a.toInt + b.toInt + asInt cin),
      decide (65536 ≤ (a.toNat : Int) + b.toNat + asInt cin)⟩ := by
  simp only [addOut, sum17_overflow, sum17_carry]
  rw [sum17_low]

theorem toInt_complement (b : Word) : (~~~b).toInt = -b.toInt - 1 := by
  have hb := b.isLt
  rw [BitVec.toInt_eq_toNat_cond, BitVec.toInt_eq_toNat_cond, BitVec.toNat_not]
  split <;> split <;> omega

theorem subOut_eq_addOut (a b : Word) (cin : Bool) : subOut a b cin = addOut a (~~~b) cin := by
  have hsign : (a.msb != b.msb) = (a.msb == (~~~b).msb) := by
    rw [BitVec.msb_not]
    cases a.msb <;> cases b.msb <;> rfl
  simp only [subOut, addOut, hsign]

/-- A subtraction with carry-in `c` is `a − b + c − 1`; its carry says that nothing is borrowed (D2). -/
theorem subOut_eq (a b : Word) (cin : Bool) : subOut a b cin =
    ⟨BitVec.ofInt 16 (a.toInt - b.toInt + asInt cin - 1),
      decide (a.toInt - b.toInt + asInt cin - 1 < -32768 ∨ 32767 < a.toInt - b.toInt + asInt cin - 1),
      decide (0 ≤ (a.toNat : Int) - b.toNat + asInt cin - 1)⟩ := by
  have hb := b.isLt
  have hsum : a.toInt + (-b.toInt - 1) + asInt cin = a.toInt - b.toInt + asInt cin - 1 := by omega
  have hcarry : 65536 ≤ (a.toNat : Int) + (~~~b).toNat + asInt cin ↔ 0 ≤ (a.toNat : Int) - b.toNat + asInt cin - 1 := by
    rw [BitVec.toNat_not]
    omega
  rw [subOut_eq_addOut, addOut_eq, toInt_complement, hsum, decide_eq_decide.mpr hcarry]

theorem eq_iff_toInt (y : Word) (k : Word) : (y = k) ↔ y.toInt = k.toInt := BitVec.toInt_inj.symm

/-- Y + 1 overflows from 0x7FFF alone. -/
theorem incOut_eq (y : Word) :
    (AluOut.mk ((sum17 y 1#16 false).setWidth 16) (y = 0x7FFF#16) ((sum17 y 1#16 false).getLsbD 16)) =
    ⟨BitVec.ofInt 16 (y.toInt + 1), decide (y.toInt + 1 < -32768 ∨ 32767 < y.toInt + 1),
      decide (65536 ≤ (y.toNat : Int) + 1)⟩ := by
  have hlow := y.le_toInt
  have hhigh := y.toInt_lt
  have hsum : y.toInt + (1#16).toInt + asInt false = y.toInt + 1 := by
    rw [show (1#16).toInt = 1 from rfl, show asInt false = 0 from rfl, Int.add_zero]
  have hov : y = 0x7FFF#16 ↔ y.toInt + 1 < -32768 ∨ 32767 < y.toInt + 1 := by
    rw [eq_iff_toInt, show (0x7FFF#16).toInt = 32767 from rfl]
    omega
  have hcarry : 65536 ≤ (y.toNat : Int) + (1#16).toNat + asInt false ↔ 65536 ≤ (y.toNat : Int) + 1 := by
    rw [show (1#16).toNat = 1 from rfl, show asInt false = 0 from rfl]
    omega
  rw [sum17_low, sum17_carry, hsum, decide_eq_decide.mpr hov, decide_eq_decide.mpr hcarry]

/-- −Y overflows from 0x8000 alone. -/
theorem negOut_eq (y : Word) :
    (AluOut.mk ((sum17 (~~~y) 1#16 false).setWidth 16) (y = 0x8000#16) ((sum17 (~~~y) 1#16 false).getLsbD 16)) =
    ⟨BitVec.ofInt 16 (-y.toInt), decide (-y.toInt < -32768 ∨ 32767 < -y.toInt), decide (0 ≤ -(y.toNat : Int))⟩ := by
  have hlow := y.le_toInt
  have hhigh := y.toInt_lt
  have hy := y.isLt
  have hsum : -y.toInt - 1 + (1#16).toInt + asInt false = -y.toInt := by
    rw [show (1#16).toInt = 1 from rfl, show asInt false = 0 from rfl]
    omega
  have hov : y = 0x8000#16 ↔ -y.toInt < -32768 ∨ 32767 < -y.toInt := by
    rw [eq_iff_toInt, show (0x8000#16).toInt = -32768 from rfl]
    omega
  have hcarry : 65536 ≤ ((~~~y).toNat : Int) + (1#16).toNat + asInt false ↔ 0 ≤ -(y.toNat : Int) := by
    rw [BitVec.toNat_not, show (1#16).toNat = 1 from rfl, show asInt false = 0 from rfl]
    omega
  rw [sum17_low, sum17_carry, toInt_complement, hsum, decide_eq_decide.mpr hov, decide_eq_decide.mpr hcarry]

/-- Y − 1 overflows from 0x8000 alone. -/
theorem decOut_eq (y : Word) :
    (AluOut.mk ((sum17 y 0xFFFF#16 false).setWidth 16) (y = 0x8000#16) ((sum17 y 0xFFFF#16 false).getLsbD 16)) =
    ⟨BitVec.ofInt 16 (y.toInt - 1), decide (y.toInt - 1 < -32768 ∨ 32767 < y.toInt - 1),
      decide (0 ≤ (y.toNat : Int) - 1)⟩ := by
  have hlow := y.le_toInt
  have hhigh := y.toInt_lt
  have hsum : y.toInt + (0xFFFF#16).toInt + asInt false = y.toInt - 1 := by
    rw [show (0xFFFF#16).toInt = -1 from rfl, show asInt false = 0 from rfl]
    omega
  have hov : y = 0x8000#16 ↔ y.toInt - 1 < -32768 ∨ 32767 < y.toInt - 1 := by
    rw [eq_iff_toInt, show (0x8000#16).toInt = -32768 from rfl]
    omega
  have hcarry : 65536 ≤ (y.toNat : Int) + (0xFFFF#16).toNat + asInt false ↔ 0 ≤ (y.toNat : Int) - 1 := by
    rw [show (0xFFFF#16).toNat = 65535 from rfl, show asInt false = 0 from rfl]
    omega
  rw [sum17_low, sum17_carry, hsum, decide_eq_decide.mpr hov, decide_eq_decide.mpr hcarry]

/-- ABS (R242): the negative of a negative operand, which overflows from 0x8000 alone; never a carry. -/
theorem absOut_eq (x : Word) : (if x.msb then ⟨-x, x = 0x8000#16, false⟩ else plainOut x : AluOut) =
    ⟨BitVec.ofInt 16 (if x.toInt < 0 then -x.toInt else x.toInt),
      decide ((if x.toInt < 0 then -x.toInt else x.toInt) < -32768 ∨ 32767 < (if x.toInt < 0 then -x.toInt else x.toInt)),
      false⟩ := by
  have hlow := x.le_toInt
  have hhigh := x.toInt_lt
  simp only [BitVec.msb_eq_toInt, decide_eq_true_eq]
  by_cases hneg : x.toInt < 0
  · have hov : x = 0x8000#16 ↔ -x.toInt < -32768 ∨ 32767 < -x.toInt := by
      rw [eq_iff_toInt, show (0x8000#16).toInt = -32768 from rfl]
      omega
    simp only [if_pos hneg, BitVec.ofInt_neg, BitVec.ofInt_toInt, decide_eq_decide.mpr hov]
  · simp only [if_neg hneg, BitVec.ofInt_toInt, decide_eq_false (show ¬(x.toInt < -32768 ∨ 32767 < x.toInt) by omega)]
    rfl

/-! ## Every function -/

/-- What the exact value `e` of signed operands and `u` of unsigned ones give, for a sum. -/
theorem aluOutput_of_sum {f : AluFn} {x y : Word} {c : Bool} {e u : Int} (hf : isSum f = true)
    (he : aluExact f x.toInt y.toInt (asInt c) = e) (hu : aluExact f x.toNat y.toNat (asInt c) = u) :
    ⟨BitVec.ofInt 16 e, decide (e < -32768 ∨ 32767 < e), decide (65536 ≤ u)⟩
      = (⟨aluValue f x y c, aluOverflows f x y c, aluCarries f x y c⟩ : AluOut) := by
  subst he hu
  cases f
  case inc | addC | add => simp [aluValue, aluOverflows, aluCarries, isSum, isDifference]
  all_goals exact absurd hf Bool.false_ne_true

/-- What the exact values give for a difference. -/
theorem aluOutput_of_difference {f : AluFn} {x y : Word} {c : Bool} {e u : Int} (hf : isDifference f = true)
    (he : aluExact f x.toInt y.toInt (asInt c) = e) (hu : aluExact f x.toNat y.toNat (asInt c) = u) :
    ⟨BitVec.ofInt 16 e, decide (e < -32768 ∨ 32767 < e), decide (0 ≤ u)⟩
      = (⟨aluValue f x y c, aluOverflows f x y c, aluCarries f x y c⟩ : AluOut) := by
  subst he hu
  cases f
  case neg | subB | sub | dec | rsub | rsubB => simp [aluValue, aluOverflows, aluCarries, isSum, isDifference]
  all_goals exact absurd hf Bool.false_ne_true

/-- What the exact value gives for ABS, which carries nothing. -/
theorem aluOutput_of_abs {x y : Word} {c : Bool} {e : Int} (he : aluExact .abs x.toInt y.toInt (asInt c) = e) :
    ⟨BitVec.ofInt 16 e, decide (e < -32768 ∨ 32767 < e), false⟩
      = (⟨aluValue .abs x y c, aluOverflows .abs x y c, aluCarries .abs x y c⟩ : AluOut) := by
  subst he
  simp [aluValue, aluOverflows, aluCarries, isSum, isDifference]

/-- The output, overflow and carry of every ALU function, as exact integers give them (R226 to R246). -/
theorem aluEval_eq (f : AluFn) (x y : Word) (c : Bool) :
    aluEval f x y c = ⟨aluValue f x y c, aluOverflows f x y c, aluCarries f x y c⟩ := by
  have hfull : ∀ a b : Int, a - b = a - b + asInt true - 1 := fun a b => by
    rw [show asInt true = 1 from rfl]
    omega
  cases f
  case inc => exact (incOut_eq y).trans (aluOutput_of_sum rfl rfl rfl)
  case addC => exact (addOut_eq x y c).trans (aluOutput_of_sum rfl rfl rfl)
  case add => exact (addOut_eq x y false).trans (aluOutput_of_sum rfl (Int.add_zero _).symm (Int.add_zero _).symm)
  case neg => exact (negOut_eq y).trans (aluOutput_of_difference rfl rfl rfl)
  case subB => exact (subOut_eq x y c).trans (aluOutput_of_difference rfl rfl rfl)
  case sub => exact (subOut_eq x y true).trans (aluOutput_of_difference rfl (hfull _ _) (hfull _ _))
  case dec => exact (decOut_eq y).trans (aluOutput_of_difference rfl rfl rfl)
  case rsub => exact (subOut_eq y x true).trans (aluOutput_of_difference rfl (hfull _ _) (hfull _ _))
  case rsubB => exact (subOut_eq y x c).trans (aluOutput_of_difference rfl rfl rfl)
  case abs => exact (absOut_eq x).trans (aluOutput_of_abs rfl)
  all_goals rfl

/-! ## The flags and the result (R225) -/

theorem aluFlags_get (a : BitVec 9) (r : Word) (av ac : Bool) (k : Nat) :
    (aluFlags a r av ac).getLsbD k
      = if k = 3 then ac else if k = 2 then av else if k = 1 then r.msb else if k = 0 then decide (r = 0) else a.getLsbD k := by
  simp only [aluFlags, putBit_get _ _ _ _ (show 3 < 9 by omega), putBit_get _ _ _ _ (show 2 < 9 by omega),
    putBit_get _ _ _ _ (show 1 < 9 by omega), putBit_get _ _ _ _ (show 0 < 9 by omega)]

/-- ASTAT after an ALU function: the four flags of the written value, and AS for ABS. -/
theorem State.aluOp_astat (s : State) (dest : Option ResultReg) (f : AluFn) (x y : Word) :
    (s.aluOp dest f x y).astat =
      let o := aluEval f x y ((s.astatEff .carryIn).getLsbD 3)
      let flags := aluFlags s.astat (if dest = some .result ∧ s.arSat then saturate o else o.r)
        (if s.avLatch then (s.astatEff .overflowLatch).getLsbD 2 || o.ov else o.ov) o.cy
      if f = .abs then putBit flags 4 x.msb else flags := by
  cases dest <;> rfl

/-- A function with a result register writes it into the bank in use. -/
theorem State.aluOp_some (s : State) (z : ResultReg) (f : AluFn) (x y : Word) :
    s.aluOp (some z) f x y = ({ s with astat := (s.aluOp (some z) f x y).astat }).updData .result fun d => d.setAlu z
      (if some z = some ResultReg.result ∧ s.arSat then saturate (aluEval f x y ((s.astatEff .carryIn).getLsbD 3))
        else (aluEval f x y ((s.astatEff .carryIn).getLsbD 3)).r) := rfl

section SettledState

variable {s : State} (h : Settled s)
include h

theorem settled_updData (r : Role) (f : DataRegs → DataRegs) : Settled (s.updData r f) :=
  (s.updData_windows r f).trans h

theorem settled_withAstat (a : BitVec 9) : Settled { s with astat := a } := h

/-- The bank in use after a change of it beside a change of ASTAT. -/
theorem State.bank_updData_astat (a : BitVec 9) (r : Role) (f : DataRegs → DataRegs) :
    bank (({ s with astat := a }).updData r f) = f (bank s) := bank_updData (settled_withAstat h a) r f

theorem State.otherBank_updData_astat (a : BitVec 9) (r : Role) (f : DataRegs → DataRegs) :
    otherBank (({ s with astat := a }).updData r f) = otherBank s :=
  otherBank_updData (settled_withAstat h a) r f

theorem State.aluX_settled (x : AluXop) : s.aluX x = aluXValue s x := by
  rw [aluX, dreg, dataAt_eq_bank h]
  cases x <;> rfl

theorem State.aluY_settled (y : AluYop) : s.aluY y = aluYValue s y := by
  cases y <;> simp only [aluY, dreg, dataAt_eq_bank h, aluYValue, DataRegs.get]
  rfl

/-- The value an ALU function writes, or takes its flags from (R225). -/
theorem State.aluWritten_eq (dest : Option ResultReg) (f : AluFn) (x y : Word) :
    (if dest = some .result ∧ s.arSat = true then saturate (aluEval f x y ((s.astatEff .carryIn).getLsbD 3))
      else (aluEval f x y ((s.astatEff .carryIn).getLsbD 3)).r) = aluWritten f dest x y s := by
  simp only [aluEval_eq, arSat_closed h, astatEff_closed h, saturate, aluWritten]
  by_cases hsat : dest = some .result ∧ s.mstat.getLsbD 3 = true
  · obtain ⟨hdest, hmode⟩ := hsat
    simp only [hdest, hmode, true_and, if_true]
  · rw [if_neg hsat, if_neg fun ⟨hdest, hmode, _⟩ => hsat ⟨hdest, hmode⟩]

/-- AR or AF gets the written value; no other data register changes. -/
theorem State.bank_aluOp (dest : Option ResultReg) (f : AluFn) (x y : Word) :
    bank (s.aluOp dest f x y) = match dest with
      | none => bank s
      | some .result => { bank s with ar := aluWritten f dest x y s }
      | some .feedback => { bank s with af := aluWritten f dest x y s } := by
  rcases dest with _ | z
  · rfl
  · rw [aluOp_some, bank_updData_astat h, aluWritten_eq h]
    cases z <;> rfl

theorem State.otherBank_aluOp (dest : Option ResultReg) (f : AluFn) (x y : Word) :
    otherBank (s.aluOp dest f x y) = otherBank s := by
  rcases dest with _ | z
  · rfl
  · rw [aluOp_some, otherBank_updData_astat h]

/-- The flags after an ALU function. -/
theorem State.aluOp_astat_get (dest : Option ResultReg) (f : AluFn) (x y : Word) (k : Nat) :
    (s.aluOp dest f x y).astat.getLsbD k =
      if k = 4 ∧ f = .abs then decide (x.toInt < 0)
      else if k = 3 then aluCarries f x y (s.astat.getLsbD 3)
      else if k = 2 then aluOverflows f x y (s.astat.getLsbD 3) || (s.mstat.getLsbD 2 && s.astat.getLsbD 2)
      else if k = 1 then decide ((aluWritten f dest x y s).toInt < 0)
      else if k = 0 then decide ((aluWritten f dest x y s).toNat = 0)
      else s.astat.getLsbD k := by
  have hzero : ∀ r : Word, decide (r = 0) = decide (r.toNat = 0) := fun r =>
    decide_eq_decide.mpr (BitVec.toNat_inj (y := (0 : Word))).symm
  have hav : (if s.avLatch then (s.astatEff .overflowLatch).getLsbD 2 || aluOverflows f x y (s.astat.getLsbD 3)
      else aluOverflows f x y (s.astat.getLsbD 3))
      = (aluOverflows f x y (s.astat.getLsbD 3) || (s.mstat.getLsbD 2 && s.astat.getLsbD 2)) := by
    rw [avLatch, astatEff_closed h]
    cases s.mstat.getLsbD 2
    · exact (Bool.or_false _).symm
    · exact Bool.or_comm _ _
  rw [aluOp_astat]
  simp only [aluWritten_eq h]
  simp only [aluEval_eq, astatEff_closed h] at hav ⊢
  rw [hav]
  by_cases habs : f = .abs
  · simp only [habs, and_true, if_true, putBit_get _ _ _ _ (show 4 < 9 by omega), aluFlags_get, hzero, BitVec.msb_eq_toInt]
  · simp only [habs, and_false, if_false, aluFlags_get, hzero, BitVec.msb_eq_toInt]

/-- The whole effect of an ALU function (R225). -/
theorem State.aluDone_aluOp (dest : Option ResultReg) (f : AluFn) (x y : Word) : AluDone f dest x y s (s.aluOp dest f x y) := by
  refine ⟨bank_aluOp h dest f x y, otherBank_aluOp h dest f x y, ?az, ?an, ?av, ?ac, ?as, fun k hk => ?rest,
    s.aluOp_frame dest f x y⟩
  all_goals rw [aluOp_astat_get h]
  case as => simp
  case rest => simp [show k ≠ 4 by omega, show k ≠ 3 by omega, show k ≠ 2 by omega, show k ≠ 1 by omega,
    show k ≠ 0 by omega]
  all_goals rfl

end SettledState

/-! ## Divide steps (R247, R248) -/

/-- A word shifted left by one, a bit shifted in. -/
theorem shiftIn_eq (v : Word) (b : Bool) : v.extractLsb' 0 15 ++ bit b = BitVec.ofNat 16 (2 * v.toNat + b.toNat) := by
  have hb : (bit b).toNat = b.toNat := by cases b <;> rfl
  have hlt : b.toNat < 2 := b.toNat_lt
  apply BitVec.eq_of_toNat_eq
  rw [BitVec.toNat_append, BitVec.extractLsb'_toNat, hb, ← Nat.shiftLeft_add_eq_or_of_lt hlt, Nat.shiftLeft_eq,
    Nat.shiftRight_zero, BitVec.toNat_ofNat]
  omega

theorem msb_toNat (v : Word) : v.msb.toNat = v.toNat / 32768 := by
  have hv := v.isLt
  rw [BitVec.msb_eq_decide]
  by_cases h : 2 ^ (16 - 1) ≤ v.toNat
  · rw [decide_eq_true h, Bool.toNat_true]
    omega
  · rw [decide_eq_false h, Bool.toNat_false]
    omega

section SettledState

variable {s : State} (h : Settled s)
include h

/-- Two changes of the bank in use beside a change of ASTAT. -/
theorem State.bank_updData_twice (a : BitVec 9) (q r : Role) (f g : DataRegs → DataRegs) :
    bank ((({ s with astat := a }).updData q f).updData r g) = g (f (bank s)) :=
  (bank_updData (settled_updData (settled_withAstat h a) q f) r g).trans (congrArg g (bank_updData_astat h a q f))

theorem State.otherBank_updData_twice (a : BitVec 9) (q r : Role) (f g : DataRegs → DataRegs) :
    otherBank ((({ s with astat := a }).updData q f).updData r g) = otherBank s :=
  (otherBank_updData (settled_updData (settled_withAstat h a) q f) r g).trans (otherBank_updData_astat h a q f)

theorem State.bank_divStep (top : Word) (q low : Bool) : bank (s.divStep top q low) = { bank s with
    af := BitVec.ofNat 16 (2 * top.toNat + (bank s).ay0.toNat / 32768)
    ay0 := BitVec.ofNat 16 (2 * (bank s).ay0.toNat + low.toNat) } := by
  simp only [divStep, dreg, dataAt_eq_bank h, DataRegs.get, shiftIn_eq, msb_toNat]
  rw [bank_updData_twice h]

theorem State.otherBank_divStep (top : Word) (q low : Bool) : otherBank (s.divStep top q low) = otherBank s := by
  exact otherBank_updData_twice h _ _ _ _ _

end SettledState

theorem State.divStep_astat_get (s : State) (top : Word) (q low : Bool) (k : Nat) :
    (s.divStep top q low).astat.getLsbD k = if k = 5 then q else s.astat.getLsbD k :=
  putBit_get s.astat 5 q k (by omega)

theorem State.divStep_frame (s : State) (top : Word) (q low : Bool) :
    s.divStep top q low = { s with data := (s.divStep top q low).data, astat := (s.divStep top q low).astat } := rfl

/-! ## Constants (R146) -/

theorem bitMask_get (n : BitVec 4) (i : Nat) : (bitMask n).getLsbD i = decide (i = n.toNat) := by
  have hn : n.toNat < 16 := n.isLt
  rw [bitMask, BitVec.getLsbD_twoPow, decide_eq_true hn, Bool.true_and]
  exact decide_eq_decide.mpr eq_comm

/-- The constant is the one word whose bits are as R146 says. -/
theorem isConstant_iff (k : Const) (v : Word) : IsConstant k v ↔ v = Const.value k := by
  have hbits : ∀ i, i < 16 → (Const.value k).getLsbD i = (decide (i = k.n.toNat) ^^ k.neg) := by
    intro i hi
    rw [Const.value]
    cases k.neg
    · exact (bitMask_get k.n i).trans (Bool.xor_false _).symm
    · simp only [if_true, BitVec.getLsbD_not, hi, decide_true, Bool.true_and, bitMask_get, Bool.xor_true]
  constructor
  · intro hv
    exact BitVec.eq_of_getLsbD_eq fun i hi => (hv i hi).trans (hbits i hi).symm
  · rintro rfl
    exact hbits

/-! ## The instructions -/

theorem exec_aluYop (f : AluFn) (z : ResultReg) (y : AluYop) (x : AluXop) (c : Cond) (s : State) :
    exec (Instr.aluYop f z y x c) s = .next (s.aluYop f z y x c) := by
  cases f <;> rfl

theorem exec_aluConst (f : AluFn) (z : ResultReg) (k : Const) (x : AluXop) (c : Cond) (s : State) :
    exec (Instr.aluConst f z k x c) s = .next (s.aluConst f z (Const.value k) x c) := by
  cases f <;> rfl

theorem exec_aluReg (f : AluFn) (z : ResultReg) (y0 : Bool) (x y : Dreg) (s : State) :
    exec (Instr.aluReg f z y0 x y) s = .next (s.aluReg f z y0 x y) := by
  cases f <;> rfl

section SettledState

variable {s : State} (h : Settled s)
include h

/-- Type 9 with a register or zero as y. -/
theorem State.conditionally_aluYop {i : Instr} {f : AluFn} {z : ResultReg} {y : AluYop} {x : AluXop} {c : Cond}
    (he : exec i s = .next (s.aluYop f z y x c)) :
    Conditionally i c s (AluDone f (some z) (aluXValue s x) (aluYValue s y)) := by
  refine conditionally_of_onCond h he ?_
  have hc := settled_afterCond h c
  rw [aluX_settled hc, aluY_settled hc, aluXValue_afterCond, aluYValue_afterCond]
  exact aluDone_aluOp hc _ _ _ _

/-- Type 9 with a constant as y. -/
theorem State.conditionally_aluConst {i : Instr} {f : AluFn} {z : ResultReg} {v : Word} {x : AluXop} {c : Cond}
    (he : exec i s = .next (s.aluConst f z v x c)) : Conditionally i c s (AluDone f (some z) (aluXValue s x) v) := by
  refine conditionally_of_onCond h he ?_
  have hc := settled_afterCond h c
  rw [aluX_settled hc, aluXValue_afterCond]
  exact aluDone_aluOp hc _ _ _ _

end SettledState

end Sys2Proof.Machine

namespace Sys2Proof.Claims

open Sys2Proof.Machine

/-- Settles O14. -/
theorem aluFunctionsOfXopAndYop : Obligations.AluFunctionsOfXopAndYop := fun f z y x c s h =>
  State.conditionally_aluYop h (exec_aluYop f z y x c s)

/-- Settles O15. -/
theorem aluFunctionsOfXopAndConstant : Obligations.AluFunctionsOfXopAndConstant := by
  intro f z k v x c s h hv
  rw [(isConstant_iff k v).mp hv]
  exact State.conditionally_aluConst h (exec_aluConst f z k x c s)

/-- Settles O16. -/
theorem aluFunctionsOfTwoDataRegisters : Obligations.AluFunctionsOfTwoDataRegisters := by
  intro f z y0 x y s h
  refine ⟨_, exec_aluReg f z y0 x y s, ?_⟩
  simp only [State.aluReg, State.regY, State.dreg, State.dataAt_eq_bank h]
  exact State.aluDone_aluOp h _ _ _ _

/-- Settles O17: each row is a function of Type 9 with the constant it names, or with y = 0. -/
theorem bitPassAndNegateInstructions : Obligations.BitPassAndNegateInstructions := by
  intro z x c s h v
  refine ⟨fun n mask hmask => ?bits, ?_, ?_, ?_, ?_, ?_⟩
  case bits =>
    have hv : mask = bitMask n := (isConstant_iff ⟨false, n⟩ mask).mp hmask
    rw [hv]
    exact ⟨State.conditionally_aluConst h rfl, State.conditionally_aluConst h rfl, State.conditionally_aluConst h rfl,
      State.conditionally_aluConst h rfl⟩
  all_goals exact State.conditionally_aluYop (y := .zero) h rfl

/-- Settles O18. -/
theorem aluFlagsAlone : Obligations.AluFlagsAlone := by
  intro z f y x s h
  refine ⟨s.aluOp none f (s.aluX x) (s.aluY y), rfl, ?_⟩
  rw [State.aluX_settled h, State.aluY_settled h]
  exact State.aluDone_aluOp h none f _ _

/-- Settles O19: both rows are one divide step, of a dividend and a quotient bit that differ. -/
theorem divideSteps : Obligations.DivideSteps := by
  intro s x h d shifted
  have hstep : ∀ top q low, shifted top q low (s.divStep top q low) := fun top q low =>
    ⟨State.bank_divStep h top q low, State.otherBank_divStep h top q low, s.divStep_astat_get top q low,
      s.divStep_frame top q low⟩
  have hsign : ∀ v : Word, (d.msb ^^ v.msb) = (decide (d.toInt < 0) != decide (v.toInt < 0)) := fun v => by
    rw [BitVec.msb_eq_toInt, BitVec.msb_eq_toInt]
  refine ⟨fun y => ⟨_, rfl, ?divs⟩, ⟨_, rfl, ?divq⟩⟩
  case divs =>
    have hy : s.divY y = (match y with | .ay1 => (bank s).ay1 | .af => (bank s).af) := by
      cases y <;> simp only [State.divY, State.dreg, State.dataAt_eq_bank h, DataRegs.get]
    rw [State.aluX_settled h, hsign, hy]
    exact hstep _ _ _
  case divq =>
    have htop : (if (s.astatEff .quotient).getLsbD 5 then s.aluY .af + s.aluX x else s.aluY .af - s.aluX x)
        = BitVec.ofInt 16 ((bank s).af.toInt + (if s.astat.getLsbD 5 then d.toInt else -d.toInt)) := by
      rw [State.astatEff_closed h, State.aluX_settled h, State.aluY_settled h]
      split
      · rw [BitVec.ofInt_add, BitVec.ofInt_toInt, BitVec.ofInt_toInt]
        rfl
      · rw [BitVec.ofInt_add, BitVec.ofInt_neg, BitVec.ofInt_toInt, BitVec.ofInt_toInt, ← BitVec.sub_eq_add_neg]
        rfl
    rw [htop, State.aluX_settled h, hsign]
    exact hstep _ _ _

end Sys2Proof.Claims
end

section
/-! SUPPORT, O20 to O23 and O25. The multiplier in a settled state (spec/41_mac.md): the product and the rounding as integer
arithmetic, and the whole effect of an accumulator result (`accDone_write`, `accDone_flag`). -/

namespace Sys2Proof.Machine

open Sys2Proof.Claims

/-! ## Rounding (R274) -/

/-- Clearing a bit takes its weight off. -/
theorem putBit_false_toNat {w : Nat} (v : BitVec w) {i : Nat} (hi : i < w) :
    (putBit v i false).toNat + (v.toNat / 2 ^ i % 2) * 2 ^ i = v.toNat := by
  have hweight : (BitVec.twoPow w i).toNat = 2 ^ i := by
    rw [BitVec.toNat_twoPow, Nat.mod_eq_of_lt (Nat.pow_lt_pow_right (by omega) hi)]
  have hsplit : putBit v i false + (v &&& BitVec.twoPow w i) = v := by
    have hdisjoint : putBit v i false &&& (v &&& BitVec.twoPow w i) = 0#w := by
      apply BitVec.eq_of_getLsbD_eq
      intro k hk
      simp [putBit]
      grind
    rw [BitVec.add_eq_or_of_and_eq_zero _ _ hdisjoint]
    apply BitVec.eq_of_getLsbD_eq
    intro k hk
    simp [putBit]
    grind
  have hbit : (v &&& BitVec.twoPow w i).toNat = (v.toNat / 2 ^ i % 2) * 2 ^ i := by
    rw [← Nat.toNat_testBit, show v.toNat.testBit i = v.getLsbD i from rfl, BitVec.and_twoPow]
    cases v.getLsbD i with
    | false => rw [if_neg Bool.false_ne_true, Bool.toNat_false, Nat.zero_mul, BitVec.toNat_zero]
    | true => rw [if_pos rfl, hweight, Bool.toNat_true, Nat.one_mul]
  have hle : (putBit v i false).toNat ≤ v.toNat := by
    rw [putBit, if_neg Bool.false_ne_true, BitVec.toNat_and]
    exact Nat.and_le_left
  have hsum := congrArg BitVec.toNat hsplit
  rw [BitVec.toNat_add, hbit] at hsum
  have hv := v.isLt
  have hm : (v.toNat / 2 ^ i % 2) * 2 ^ i ≤ v.toNat := by
    rw [← hbit, BitVec.toNat_and]
    exact Nat.and_le_left
  rcases Nat.lt_or_ge ((putBit v i false).toNat + (v.toNat / 2 ^ i % 2) * 2 ^ i) (2 ^ w) with hlt | hge
  · rwa [Nat.mod_eq_of_lt hlt] at hsum
  · rw [Nat.mod_eq_sub_mod hge, Nat.mod_eq_of_lt (by omega)] at hsum
    omega

/-- `round40` rounds at bit 15, a tie as the mode says (R274). -/
theorem round40_eq (v : Acc40) (biased : Bool) : round40 v biased = BitVec.ofNat 40 (rounded biased v.toNat) := by
  have hv : v.toNat < 2 ^ 40 := v.isLt
  have hlow : (v.extractLsb' 0 16).toNat = v.toNat % 65536 := by
    rw [BitVec.extractLsb'_toNat, Nat.shiftRight_zero]
  have htie : (v.extractLsb' 0 16 == 0x8000#16) = decide (v.toNat % 65536 = 32768) := by
    rw [Bool.eq_iff_iff, beq_iff_eq, decide_eq_true_eq, ← BitVec.toNat_inj, hlow]
    rfl
  have hsum : (v + 0x8000#40).toNat = (v.toNat + 32768) % 2 ^ 40 := BitVec.toNat_add _ _
  have hclear := putBit_false_toNat (v + 0x8000#40) (show 16 < 40 by omega)
  rw [hsum] at hclear
  apply BitVec.eq_of_toNat_eq
  rw [BitVec.toNat_ofNat, round40, rounded, htie]
  by_cases hodd : biased = false ∧ v.toNat % 65536 = 32768
  · obtain ⟨hmode, hhalf⟩ := hodd
    simp only [hmode, hhalf, Bool.not_false, Bool.true_and, decide_true, if_true, Nat.lt_irrefl, Bool.false_eq_true,
      or_self, if_false]
    omega
  · have hcond : ¬((!biased && decide (v.toNat % 65536 = 32768)) = true) := by
      simpa only [Bool.and_eq_true, Bool.not_eq_true', decide_eq_true_eq] using hodd
    rw [if_neg hcond, hsum]
    by_cases hbelow : v.toNat % 65536 < 32768
    · rw [if_pos hbelow]
      omega
    · have habove : 32768 < v.toNat % 65536 ∨ biased = true := by
        cases biased
        · have hne : v.toNat % 65536 ≠ 32768 := fun he => hodd ⟨rfl, he⟩
          exact .inl (by omega)
        · exact .inr rfl
      rw [if_neg hbelow, if_pos habove]
      omega

/-! ## Products (R272, R273, R275) -/

theorem macOperand_x (fmt : MacFmt) (v : Word) : macOperand (MacFmt.xSigned fmt) v = macInt (xIsSigned fmt) v := by
  cases fmt <;> rfl

theorem macOperand_y (fmt : MacFmt) (v : Word) : macOperand (MacFmt.ySigned fmt) v = macInt (yIsSigned fmt) v := by
  cases fmt <;> rfl

theorem macProduct_eq (fmt : MacFmt) (x y : Word) (integer : Bool) :
    macProduct fmt x y integer = macExact .mul 0 (macInt (xIsSigned fmt) x) (macInt (yIsSigned fmt) y) integer := by
  rw [macProduct, macOperand_x, macOperand_y]
  cases integer
  · exact Int.mul_comm _ _
  · exact (Int.mul_one _).symm

theorem macEval_eq (op : MacOp) (fmt : MacFmt) (acc : Acc40) (x y : Word) (integer biased : Bool) :
    macEval op fmt acc x y integer biased =
      let e := BitVec.ofInt 40 (macExact op acc.toInt (macInt (xIsSigned fmt) x) (macInt (yIsSigned fmt) y) integer)
      if fmt = .rnd then BitVec.ofNat 40 (rounded biased e.toNat) else e := by
  simp only [macEval, macProduct_eq, round40_eq]
  cases op <;> rfl

/-! ## An accumulator result (R275, R285) -/

theorem macFlagBit_eq (z : ResultReg) : macFlagBit z = if z = .result then 6 else 8 := by cases z <;> rfl

theorem putBit_macFlag_get (a : BitVec 9) (z : ResultReg) (b : Bool) (i : Nat) :
    (putBit a (macFlagBit z) b).getLsbD i = if i = (if z = .result then 6 else 8) then b else a.getLsbD i := by
  rw [putBit_get _ _ _ _ (by cases z <;> decide), macFlagBit_eq]

section SettledState

variable {s : State} (h : Settled s)
include h

theorem State.accDone_write (z : ResultReg) (v : Acc40) : AccDone true z v s
    (({ s with astat := putBit s.astat (macFlagBit z) (accOverflow v) }).updData .result fun d => d.setAcc z v) := by
  refine ⟨?_, otherBank_updData_astat h _ _ _, fun i => ?_, rfl⟩
  · rw [bank_updData_astat h, DataRegs.setAcc_eq_withAcc]
    rfl
  · rw [← accOverflow_eq_exceeds32]
    exact putBit_macFlag_get s.astat z _ i

theorem State.macX_settled (x : MacXop) : s.macX x = macXValue s x := by
  rw [macX, dreg, dataAt_eq_bank h]
  cases x <;> rfl

theorem State.macY_settled (y : MacYop) : s.macY y = macYValue s y := by
  cases y <;> simp only [macY, dreg, dataAt_eq_bank h, macYValue, DataRegs.get]
  rfl

theorem State.macResult_settled (op : MacOp) (fmt : MacFmt) (z : ResultReg) (x y : Word) :
    macEval op fmt ((s.dataAt .acc).acc z) x y s.mMode ((s.icntlEff .biasedRound).getLsbD 7) = macValue op fmt z x y s := by
  rw [macEval_eq, dataAt_eq_bank h, mMode_closed h, icntlEff_closed h]
  rfl

/-- The whole effect of a multiplier function; with `write = false` its flag alone. -/
theorem State.accDone_macOp (write : Bool) (z : ResultReg) (op : MacOp) (fmt : MacFmt) (x y : Word) :
    AccDone write z (macValue op fmt z x y s) s (s.macOp write z op fmt x y) := by
  simp only [macOp, macResult_settled h]
  cases write
  · refine ⟨rfl, rfl, fun i => ?_, rfl⟩
    rw [← accOverflow_eq_exceeds32]
    exact putBit_macFlag_get s.astat z _ i
  · exact accDone_write h z _

/-- Type 9 with a register or zero as y. -/
theorem State.conditionally_macYop {i : Instr} {op : MacOp} {fmt : MacFmt} {z : ResultReg} {y : MacYop} {x : MacXop}
    {c : Cond} (he : exec i s = .next (s.macYop op fmt z y x c)) :
    Conditionally i c s (AccDone true z (macValue op fmt z (macXValue s x) (macYValue s y) s)) := by
  refine conditionally_of_onCond h he ?_
  have hc := settled_afterCond h c
  have hdone := accDone_macOp hc true z op fmt (macXValue s x) (macYValue s y)
  rw [macValue_afterCond] at hdone
  rwa [macX_settled hc, macY_settled hc, macXValue_afterCond, macYValue_afterCond]

theorem State.conditionally_macSquare {i : Instr} {op : MacOp} {fmt : MacFmt} {z : ResultReg} {x : MacXop} {c : Cond}
    (he : exec i s = .next (s.macSquare op fmt z x c)) :
    Conditionally i c s (AccDone true z (macValue op fmt z (macXValue s x) (macXValue s x) s)) := by
  refine conditionally_of_onCond h he ?_
  have hc := settled_afterCond h c
  have hdone := accDone_macOp hc true z op fmt (macXValue s x) (macXValue s x)
  rw [macValue_afterCond] at hdone
  rwa [macX_settled hc, macXValue_afterCond]

end SettledState

/-! ## Multiplications by 0 (R283, R284) -/

theorem macInt_zero (signed : Bool) : macInt signed 0 = 0 := by cases signed <;> rfl

theorem macValue_clear (z : ResultReg) (x : Word) (s : State) : macValue .mul .ss z x 0 s = 0 := by
  simp only [macValue, macExact, macInt_zero, Int.mul_zero, Int.zero_mul]
  rfl

theorem macValue_round (z : ResultReg) (x : Word) (s : State) : macValue .add .rnd z x 0 s
    = BitVec.ofNat 40 (rounded (s.icntl.getLsbD 7) ((bank s).acc z).toNat) := by
  simp only [macValue, macExact, macInt_zero, Int.mul_zero, Int.zero_mul, Int.add_zero, BitVec.ofInt_toInt, if_true]

/-! ## The instructions -/

theorem exec_macYop (op : MacOp) (fmt : MacFmt) (z : ResultReg) (y : MacYop) (x : MacXop) (c : Cond) (s : State) :
    exec (Instr.macYop op fmt z y x c) s = .next (s.macYop op fmt z y x c) := by
  cases op <;> cases fmt <;> rfl

theorem exec_macSq (op : MacOp) (fmt : MacFmt) (z : ResultReg) (x : MacXop) (c : Cond) (s : State) :
    exec (Instr.macSq op fmt z x c) s = .next (s.macSquare op fmt z x c) := by
  cases op <;> cases fmt <;> rfl

theorem exec_macReg (op : MacOp) (fmt : MacFmt) (z : ResultReg) (y0 : Bool) (x y : Dreg) (s : State) :
    exec (Instr.macReg op fmt z y0 x y) s = .next (s.macReg op fmt z y0 x y) := by
  cases op <;> cases fmt <;> rfl

end Sys2Proof.Machine

namespace Sys2Proof.Claims

open Sys2Proof.Machine

/-- Settles O20. -/
theorem multiplierFunctionsOfXopAndYop : Obligations.MultiplierFunctionsOfXopAndYop := fun op fmt z y x c s h =>
  State.conditionally_macYop h (exec_macYop op fmt z y x c s)

/-- Settles O21. -/
theorem multiplierSquares : Obligations.MultiplierSquares := fun op fmt z x c s h =>
  State.conditionally_macSquare h (exec_macSq op fmt z x c s)

/-- Settles O22. -/
theorem multiplierFunctionsOfTwoDataRegisters : Obligations.MultiplierFunctionsOfTwoDataRegisters := by
  intro op fmt z y0 x y s h
  refine ⟨_, exec_macReg op fmt z y0 x y s, ?_⟩
  simp only [State.macReg, State.regY, State.dreg, State.dataAt_eq_bank h]
  exact State.accDone_macOp h true z op fmt _ _

/-- Settles O23: both rows multiply by 0. -/
theorem clearAndRoundAccumulator : Obligations.ClearAndRoundAccumulator := by
  intro z x c s h
  have hclear := State.conditionally_macYop (i := .clearAcc z x c) (op := .mul) (fmt := .ss) (z := z) (y := .zero) (x := x) h rfl
  have hround := State.conditionally_macYop (i := .roundAcc z x c) (op := .add) (fmt := .rnd) (z := z) (y := .zero) (x := x) h rfl
  exact ⟨macValue_clear z (macXValue s x) s ▸ hclear, macValue_round z (macXValue s x) s ▸ hround⟩

/-- Settles O25. -/
theorem multiplierFlagsAloneAndNoOperations : Obligations.MultiplierFlagsAloneAndNoOperations := by
  refine fun s h => ⟨fun z op fmt y x => ⟨_, rfl, ?_⟩, fun _ _ => rfl, fun _ _ _ _ => rfl, fun zyx c => ?_, fun _ => rfl⟩
  · rw [State.compute, State.macX_settled h, State.macY_settled h]
    exact State.accDone_macOp h false z op fmt _ _
  · show Host.Outcome.next (s.onCond c fun t => t) = _
    rw [State.onCond, ite_self, State.evalCond_settled h]

end Sys2Proof.Claims
end

section
/-! SUPPORT, O26 to O28. The shifter in a settled state (spec/42_shifter.md): `shift40` as a multiplication or a floor
division by a power of two, leading bits and exponents, and the whole effects on SR, SE and SB. -/

namespace Sys2Proof.Machine

open Sys2Proof.Claims

/-! ## The shift array (R302) -/

theorem shiftLeft_eq_ofInt (v : Acc40) (n : Nat) : v <<< n = BitVec.ofInt 40 (v.toInt * 2 ^ n) := by
  have hpow : BitVec.twoPow 40 n = BitVec.ofInt 40 (2 ^ n) := by
    apply BitVec.eq_of_toNat_eq
    rw [BitVec.toNat_twoPow, BitVec.toNat_ofInt]
    norm_cast
  rw [BitVec.shiftLeft_eq_mul_twoPow, BitVec.ofInt_mul, BitVec.ofInt_toInt, hpow]

theorem sshiftRight_eq_ofInt (v : Acc40) (n : Nat) : v.sshiftRight n = BitVec.ofInt 40 (v.toInt / 2 ^ n) := by
  have hdiv : (v.sshiftRight n).toInt = v.toInt / 2 ^ n := by
    rw [BitVec.toInt_sshiftRight, Int.shiftRight_eq_div_pow, Int.natCast_pow]
    rfl
  rw [← hdiv, BitVec.ofInt_toInt]

/-- A shift to the right whose vacated bits are filled with the sign. -/
theorem filledShiftRight_eq (v : Acc40) (n : Nat) :
    ((v >>> n) ||| (if v.msb then ~~~(BitVec.allOnes 40 >>> n) else 0#40)) = v.sshiftRight n := by
  cases hmsb : v.msb
  · rw [if_neg Bool.false_ne_true, BitVec.or_zero, BitVec.sshiftRight_eq_of_msb_false hmsb]
  · rw [if_pos rfl, BitVec.sshiftRight_eq_of_msb_true hmsb]
    apply BitVec.eq_of_getLsbD_eq
    intro i hi
    simp only [BitVec.getLsbD_or, BitVec.getLsbD_not, BitVec.getLsbD_ushiftRight, BitVec.getLsbD_allOnes, hi, decide_true,
      Bool.true_and]
    by_cases hin : n + i < 40
    · simp only [hin, decide_true, Bool.not_true, Bool.or_false, Bool.true_and, Bool.not_not]
    · simp only [hin, decide_false, Bool.not_false, Bool.or_true, Bool.false_and]

/-- The integer that enters the shift array: the word with `fill` as its sign, at SR0's place or at SR1's. -/
def arrayInput (v : Word) (fill hi : Bool) : Int := ((v.toNat : Int) - if fill then 65536 else 0) * if hi then 65536 else 1

theorem extend_toInt (v : Word) (fill : Bool) :
    ((if fill then 0xFFFFFF#24 else 0x000000#24) ++ v : Acc40).toInt = (v.toNat : Int) - if fill then 65536 else 0 := by
  have hv := v.isLt
  have hnat : ((if fill then 0xFFFFFF#24 else 0x000000#24) ++ v : Acc40).toNat
      = (if fill then 0xFFFFFF * 65536 else 0) + v.toNat := by
    rw [BitVec.toNat_append, ← Nat.shiftLeft_add_eq_or_of_lt hv, Nat.shiftLeft_eq]
    cases fill <;> rfl
  rw [BitVec.toInt_eq_toNat_cond, hnat]
  cases fill
  · simp only [Bool.false_eq_true, if_false]
    split <;> omega
  · simp only [if_true]
    split <;> omega

theorem arrayInput_toInt (v : Word) (fill hi : Bool) :
    (let ext : Acc40 := (if fill then 0xFFFFFF#24 else 0x000000#24) ++ v
      if hi then ext <<< 16 else ext).toInt = arrayInput v fill hi := by
  have hv := v.isLt
  have hext := extend_toInt v fill
  cases hi
  · simpa only [Bool.false_eq_true, if_false, arrayInput, Int.mul_one] using hext
  · simp only [if_true, shiftLeft_eq_ofInt, hext, arrayInput, BitVec.toInt_ofInt]
    cases fill
    · simp only [Bool.false_eq_true, if_false, Int.bmod_def]
      omega
    · simp only [if_true, Int.bmod_def]
      omega

/-- The shift array (R302): its input times a power of two, or divided by one and rounded down. -/
theorem shift40_eq (v : Word) (code : Int) (arith hi fill : Bool) :
    shift40 v code arith hi fill = BitVec.ofInt 40 (shiftInt (arrayInput v (arith && fill) hi) code) := by
  have hinput := arrayInput_toInt v (arith && fill) hi
  simp only [shift40, shiftInt]
  simp only at hinput
  generalize (if hi = true then (_ : Acc40) else _) = base at hinput ⊢
  have hv := v.isLt
  have hsign : base.msb = (arith && fill) := by
    rw [BitVec.msb_eq_toInt, hinput, arrayInput]
    cases arith && fill <;> cases hi <;> simp <;> omega
  by_cases hcode : 0 ≤ code
  · rw [if_pos hcode, if_pos hcode, shiftLeft_eq_ofInt, hinput]
  · rw [← hsign] at hinput ⊢
    rw [if_neg hcode, if_neg hcode, filledShiftRight_eq, sshiftRight_eq_ofInt, hinput]

theorem toInt_eq_arrayInput (v : Word) : v.toInt = (v.toNat : Int) - if v.msb then 65536 else 0 := by
  have hv := v.isLt
  rw [BitVec.toInt_eq_msb_cond]
  split <;> simp

theorem shift40_shiftOut (v : Word) (code : Int) (arith hi : Bool) :
    shift40 v code arith hi v.msb = shiftOut arith hi v code := by
  rw [shift40_eq, shiftOut, arrayInput]
  cases arith
  · simp
  · simp only [Bool.true_and, if_true, ← toInt_eq_arrayInput]

theorem shift40_normOut (v : Word) (e : Int) (hi ac : Bool) :
    shift40 v (-e) hi hi (if -e < 0 then ac else v.msb) = normOut hi v e ac := by
  rw [shift40_eq, normOut, arrayInput, BitVec.msb_eq_toInt]
  cases hi
  · simp
  · simp only [Bool.true_and, if_true]

/-! ## Results in SR (R303 to R309) -/

section SettledState

variable {s : State} (h : Settled s)
include h

theorem State.shiftCode_settled : s.shiftCode = seValue s := by rw [shiftCode, dataAt_eq_bank h, seValue]

theorem State.accDone_putSr (orIn : Bool) (out : Acc40) : AccDone true .feedback (srWith orIn s out) s (s.putSr orIn out) := by
  have hr : (if orIn then (s.dataAt .acc).acc .feedback ||| out else out) = srWith orIn s out := by
    rw [dataAt_eq_bank h, srWith]
  simp only [putSr, hr]
  exact accDone_write h .feedback _

theorem State.accDone_shiftBy (x : Word) (code : Int) (arith hi orIn : Bool) :
    AccDone true .feedback (srWith orIn s (shiftOut arith hi x code)) s (s.shiftBy x code arith hi orIn) := by
  rw [shiftBy, shift40_shiftOut]
  exact accDone_putSr h orIn _

theorem State.accDone_norm (x : Word) (hi orIn : Bool) :
    AccDone true .feedback (srWith orIn s (normOut hi x (seValue s) (s.astat.getLsbD 3))) s (s.norm x hi orIn) := by
  simp only [norm, shiftCode_settled h, astatEff_closed h, shift40_normOut]
  exact accDone_putSr h orIn _

/-- The whole effect of a shifter function that writes SR. -/
theorem State.accDone_shiftOp {f : ShiftFn} {x : Word} {v : BitVec 40} (hv : shiftResult f x s = some v) :
    AccDone true .feedback v s (s.shiftOp f x) := by
  have hby : ∀ arith hi orIn, AccDone true .feedback (srWith orIn s (shiftOut arith hi x (seValue s))) s
      (s.shiftBy x s.shiftCode arith hi orIn) := fun arith hi orIn => by
    rw [shiftCode_settled h]
    exact accDone_shiftBy h x _ arith hi orIn
  cases f
  case expHi | expHix | expLo | expAdj => exact absurd hv (Option.some_ne_none v).symm
  all_goals obtain rfl := Option.some.inj hv
  case lshiftHi => exact hby false true false
  case lshiftHiOr => exact hby false true true
  case lshiftLo => exact hby false false false
  case lshiftLoOr => exact hby false false true
  case ashiftHi => exact hby true true false
  case ashiftHiOr => exact hby true true true
  case ashiftLo => exact hby true false false
  case ashiftLoOr => exact hby true false true
  case normHi => exact accDone_norm h x true false
  case normHiOr => exact accDone_norm h x true true
  case normLo => exact accDone_norm h x false false
  case normLoOr => exact accDone_norm h x false true

end SettledState

/-! ## Exponents (R311) -/

/-- The leading bits of the low `m` bits, counted from bit m − 1. -/
theorem leadFrom_eq {v : Word} {b : Bool} {m n : Nat} (hn : n ≤ m) (hall : ∀ i, i < n → v.getLsbD (m - 1 - i) = b)
    (hstop : n < m → v.getLsbD (m - 1 - n) ≠ b) : leadFrom v b m = n := by
  induction m generalizing n with
  | zero => exact (Nat.le_zero.mp hn).symm
  | succ m ih =>
    simp only [Nat.add_sub_cancel] at hall hstop
    cases n with
    | zero => exact if_neg (hstop (Nat.succ_pos m))
    | succ n =>
      have hrest : leadFrom v b m = n := by
        refine ih (Nat.le_of_succ_le_succ hn) (fun i hi => ?_) fun hlt => ?_
        · rw [show m - 1 - i = m - (i + 1) by omega]
          exact hall (i + 1) (by omega)
        · rw [show m - 1 - n = m - (n + 1) by omega]
          exact hstop (by omega)
      have htop : v.getLsbD m = b := hall 0 (Nat.succ_pos n)
      rw [leadFrom, if_pos htop, hrest, Nat.add_comm]

theorem lead_eq {v : Word} {b : Bool} {n : Nat} (hv : LeadingBits v b n) : lead v b = n := by
  obtain ⟨hn, hall, hstop⟩ := hv
  exact leadFrom_eq hn hall hstop

/-- Bit `m` of a word is the top bit of its low `m + 1` bits. -/
theorem getLsbD_eq_decide_mod (v : Word) (m : Nat) : v.getLsbD m = decide (2 ^ m ≤ v.toNat % 2 ^ (m + 1)) := by
  have hmod : (v.toNat % 2 ^ (m + 1)).testBit m = v.getLsbD m := by
    rw [Nat.testBit_mod_two_pow, decide_eq_true (Nat.lt_succ_self m), Bool.true_and]
    rfl
  rw [← hmod]
  rcases Nat.lt_or_ge (v.toNat % 2 ^ (m + 1)) (2 ^ m) with hlt | hge
  · rw [Nat.testBit_lt_two_pow hlt, decide_eq_false (Nat.not_le.mpr hlt)]
  · rw [Nat.testBit_of_two_pow_le_and_two_pow_add_one_gt hge (Nat.mod_lt _ (Nat.two_pow_pos _)), decide_eq_true hge]

/-- A word of the range of `m + 2` bits is in the range of `m + 1` bits exactly when bit `m` is the sign. -/
theorem getLsbD_eq_msb_iff (v : Word) {m : Nat} (hm : m < 15) (hlow : -2 ^ (m + 1) ≤ v.toInt) (hhigh : v.toInt < 2 ^ (m + 1)) :
    v.getLsbD m = v.msb ↔ -2 ^ m ≤ v.toInt ∧ v.toInt < 2 ^ m := by
  have hv := v.isLt
  have hint := v.toInt_eq_toNat_cond
  have hpow : (2 : Nat) ^ (m + 1) = 2 * 2 ^ m := Nat.pow_succ'
  have hpowInt : (2 : Int) ^ (m + 1) = 2 * (2 ^ m : Nat) := by
    exact_mod_cast hpow
  have hbit : v.getLsbD m = decide (2 ^ m ≤ v.toNat % 2 ^ (m + 1)) := getLsbD_eq_decide_mod v m
  have hmsb : v.msb = decide (v.toInt < 0) := BitVec.msb_eq_toInt
  have hcast : (2 : Int) ^ m = (2 ^ m : Nat) := by norm_cast
  rw [hbit, hmsb, decide_eq_decide, hcast]
  rw [hpowInt] at hlow hhigh
  split at hint
  next hpos =>
    rw [Nat.mod_eq_of_lt (by omega)]
    omega
  next hneg =>
    have hdvd : 2 ^ (m + 1) ∣ 65536 := Nat.pow_dvd_pow (n := 16) 2 (by omega)
    have hle := Nat.le_of_dvd (by decide) hdvd
    obtain ⟨q, hq⟩ := hdvd
    have hwrap : v.toNat = v.toNat + 2 ^ (m + 1) - 65536 + 2 ^ (m + 1) * (q - 1) := by
      rw [Nat.mul_sub_one, ← hq]
      omega
    have hmod : v.toNat % 2 ^ (m + 1) = v.toNat + 2 ^ (m + 1) - 65536 := by
      rw [hwrap, Nat.add_mul_mod_self_left, ← hwrap]
      exact Nat.mod_eq_of_lt (by omega)
    rw [hmod]
    omega

/-- In a word of the range of `m + 1` bits, bit `m` and every bit above it are the sign. -/
theorem getLsbD_of_range {v : Word} {m : Nat} (hlow : -2 ^ m ≤ v.toInt) (hhigh : v.toInt < 2 ^ m) {j : Nat} (hm : m ≤ j)
    (hj : j ≤ 15) : v.getLsbD j = v.msb := by
  rcases Nat.lt_or_ge j 15 with hlt | hge
  · have hwide : ∀ n, m ≤ n → -2 ^ n ≤ v.toInt ∧ v.toInt < 2 ^ n := fun n hn => by
      have hpow : (2 : Int) ^ m ≤ 2 ^ n := by
        exact_mod_cast Nat.pow_le_pow_right (n := 2) (by decide) hn
      omega
    obtain ⟨hlow', hhigh'⟩ := hwide (j + 1) (by omega)
    exact (getLsbD_eq_msb_iff v hlt hlow' hhigh').mpr (hwide j hm)
  · rw [show j = 15 by omega]
    exact (BitVec.msb_eq_getLsbD_last v).symm

/-- A word stays in 16 bits when shifted left by `k` exactly when it is in the range of 16 − k bits. -/
theorem shifted_in_range_iff (t : Int) {k : Nat} (hk : k ≤ 15) :
    (-32768 ≤ t * 2 ^ k ∧ t * 2 ^ k ≤ 32767) ↔ -2 ^ (15 - k) ≤ t ∧ t < 2 ^ (15 - k) := by
  have hpos : (0 : Int) < 2 ^ k := Int.pow_pos (by decide)
  have hsplit : (2 : Int) ^ (15 - k) * 2 ^ k = 32768 := by
    rw [← Int.pow_add, Nat.sub_add_cancel hk]
    rfl
  have hlow : -32768 ≤ t * 2 ^ k ↔ -2 ^ (15 - k) ≤ t := by
    rw [← hsplit, ← Int.neg_mul, Int.mul_le_mul_right hpos]
  have hhigh : t * 2 ^ k ≤ 32767 ↔ t < 2 ^ (15 - k) := by
    rw [← Int.mul_lt_mul_right hpos, hsplit]
    omega
  rw [hlow, hhigh]

/-- The exponent of a word counts its leading sign bits but one. -/
theorem leadingBits_of_isExponent {v : Word} {e : Int} (he : IsExponent v e) :
    ∃ k : Nat, e = -(k : Int) ∧ LeadingBits v v.msb (k + 1) := by
  obtain ⟨k, hk, hek, hin, hstop⟩ := he
  obtain ⟨hlow, hhigh⟩ := (shifted_in_range_iff v.toInt hk).mp hin
  refine ⟨k, hek, by omega, fun i hi => getLsbD_of_range hlow hhigh (by omega) (by omega), fun hlt hbit => ?_⟩
  have hm : 15 - k = 15 - (k + 1) + 1 := by omega
  rw [hm] at hlow hhigh
  have hnext := (getLsbD_eq_msb_iff v (by omega) hlow hhigh).mp hbit
  exact hstop (by omega) ((shifted_in_range_iff v.toInt (by omega)).mpr hnext)

theorem exponent_eq {v : Word} {e : Int} (he : IsExponent v e) : exponent v = e := by
  obtain ⟨k, rfl, hlead⟩ := leadingBits_of_isExponent he
  rw [exponent, lead_eq hlead]
  omega

/-! ## SE and SB -/

section SettledState

variable {s : State} (h : Settled s)
include h

/-- EXP's effect: the exponent to SE, and a sign to SS. -/
theorem State.expDone_setSe (ss : Bool) (e : Int) :
    ExpDone (BitVec.ofInt 16 e) ss s (({ s with astat := putBit s.astat 7 ss }).setSe e) :=
  ⟨bank_updData_astat h _ _ _, otherBank_updData_astat h _ _ _, fun i => putBit_get s.astat 7 ss i (by omega), rfl⟩

theorem State.expDone_expHi {x : Word} {e : Int} (he : IsExponent x e) :
    ExpDone (BitVec.ofInt 16 e) (decide (x.toInt < 0)) s (s.expHi x) := by
  rw [expHi, exponent_eq he, BitVec.msb_eq_toInt]
  exact expDone_setSe h _ e

theorem State.expDone_expHix {x : Word} {e : Int} (he : IsExponent x e) :
    (if s.astat.getLsbD 2 then ExpDone 1 (!decide (x.toInt < 0)) else ExpDone (BitVec.ofInt 16 e) (decide (x.toInt < 0)))
      s (s.expHix x) := by
  rw [expHix, astatEff_closed h]
  cases s.astat.getLsbD 2
  · exact expDone_expHi h he
  · simp only [if_true, BitVec.msb_eq_toInt]
    exact expDone_setSe h _ 1

theorem State.expDone_expLo {x : Word} {n : Nat} (hn : LeadingBits x (s.astat.getLsbD 7) n) :
    (if seValue s = -15 then ExpDone (BitVec.ofInt 16 (-15 - n)) (s.astat.getLsbD 7) else fun a t => t = a)
      s (s.expLo x) := by
  rw [expLo, shiftCode_settled h, astatEff_closed h, lead_eq hn, show -(15 + (n : Int)) = -15 - n by omega]
  split
  · refine ⟨bank_updData h _ _, otherBank_updData h _ _, fun i => ?_, rfl⟩
    by_cases hi : i = 7
    · rw [if_pos hi, hi]
      rfl
    · rw [if_neg hi]
      rfl
  · rfl

theorem State.bank_expAdj {x : Word} {e : Int} (he : IsExponent x e) : bank (s.expAdj x)
    = if e > ((bank s).sb.extractLsb' 0 5).toInt then { bank s with sb := BitVec.ofInt 16 e } else bank s := by
  rw [expAdj, exponent_eq he, dataAt_eq_bank h]
  split
  · exact bank_updData h _ _
  · rfl

theorem State.otherBank_expAdj (x : Word) : otherBank (s.expAdj x) = otherBank s := by
  rw [expAdj]
  split
  · exact otherBank_updData h _ _
  · rfl

/-- Type 16: a shifter function under a condition. -/
theorem State.conditionally_condShift {f : ShiftFn} {x : Dreg} {c : Cond} {Done : State → State → Prop}
    (hd : ∀ t, t = afterCond s c → Done t (t.shiftOp f ((bank s).get x))) :
    Conditionally (Instr.condShift f x c) c s Done := by
  have he : exec (Instr.condShift f x c) s = .next (s.condShift f x c) := by cases f <;> rfl
  refine conditionally_of_onCond h he ?_
  rw [dreg, dataAt_eq_bank (settled_afterCond h c), bank_afterCond]
  exact hd _ rfl

end SettledState

@[simp] theorem seValue_afterCond (s : State) (c : Cond) : seValue (afterCond s c) = seValue s := by
  rw [seValue, bank_afterCond, seValue]

theorem shiftResult_afterCond (s : State) (c : Cond) (f : ShiftFn) (x : Word) :
    shiftResult f x (afterCond s c) = shiftResult f x s := by
  simp only [shiftResult, srWith, seValue_afterCond, bank_afterCond, afterCond_astat]

end Sys2Proof.Machine

namespace Sys2Proof.Claims

open Sys2Proof.Machine

/-- Settles O26. -/
theorem shiftsBySe : Obligations.ShiftsBySe := by
  intro f x c s v h hv
  refine State.conditionally_condShift h ?_
  rintro _ rfl
  exact State.accDone_shiftOp (settled_afterCond h c) ((shiftResult_afterCond s c f _).trans hv)

/-- Settles O27. -/
theorem shiftsByAnImmediate : Obligations.ShiftsByAnImmediate := by
  intro x e s h v done
  have hdone : ∀ i orIn arith hi, exec i s = .next (s.immShift arith hi orIn x e) → done i orIn arith hi := by
    refine fun i orIn arith hi he => ⟨_, he, ?_⟩
    rw [State.immShift, State.dreg, State.dataAt_eq_bank h]
    exact State.accDone_shiftBy h _ _ _ _ _
  exact ⟨hdone _ _ _ _ rfl, hdone _ _ _ _ rfl, hdone _ _ _ _ rfl, hdone _ _ _ _ rfl, hdone _ _ _ _ rfl,
    hdone _ _ _ _ rfl, hdone _ _ _ _ rfl, hdone _ _ _ _ rfl⟩

/-- Settles O28. -/
theorem exponentInstructions : Obligations.ExponentInstructions := by
  intro x c s e n h v neg he hn
  have hc := settled_afterCond h c
  refine ⟨State.conditionally_condShift (f := .expHi) h ?_, State.conditionally_condShift (f := .expHix) h ?_,
    State.conditionally_condShift (f := .expLo) h ?_, State.conditionally_condShift (f := .expAdj) h ?_⟩
  all_goals rintro _ rfl
  · exact State.expDone_expHi hc he
  · have hdone := State.expDone_expHix hc he
    rwa [afterCond_astat] at hdone
  · have hdone := State.expDone_expLo hc (afterCond_astat s c ▸ hn)
    rwa [afterCond_astat, seValue_afterCond] at hdone
  · have hbank := State.bank_expAdj hc he
    rw [bank_afterCond] at hbank
    refine ⟨hbank, (State.otherBank_expAdj hc v).trans ?_, State.expAdj_frame _ v⟩
    rw [afterCond_frame]
    rfl

end Sys2Proof.Claims
end

section
/-! SUPPORT, O42 and O43. Address generation in a settled state (spec/44_data_move.md R395, R392, R393): the operations of the
model as the registers of the selected bank give them, and the circular buffer. -/

namespace Sys2Proof.Machine

open Sys2Proof.Claims

section SettledState

variable {s : State} (h : Settled s)
include h

theorem State.dagAt_eq_dagOf (g : Dag) (r : DagRole) : s.dagAt g r = dagOf s g := s.dagAt_closed h g r

theorem State.index_settled (g : Dag) (i : Slot) : s.index g i = idx s g i := by rw [index, dagAt_eq_dagOf h, idx]

theorem State.modifier_settled (g : Dag) (m : Slot) : s.modifier g m = mdf s g m := by rw [modifier, dagAt_eq_dagOf h, mdf]

theorem State.dagOut_settled (g : Dag) (a : Word) : s.dagOut g a = busAddress s g a := by
  cases g
  · simp only [dagOut, busAddress, bitRev_closed h, bitrev16, true_and]
  · rfl

theorem State.postAddress_settled (g : Dag) (i : Slot) : s.postAddress g i = busAddress s g (idx s g i) := by
  rw [postAddress, index_settled h, dagOut_settled h]

theorem State.preAddress_settled (g : Dag) (i : Slot) (m : Word) : s.preAddress g i m = busAddress s g (idx s g i + m) := by
  rw [preAddress, index_settled h, dagOut_settled h]

theorem State.dagNext_settled (g : Dag) (i : Slot) (m : Word) : s.dagNext g i m = nextIndex s g i m := by
  rw [dagNext, index_settled h, dagAt_eq_dagOf h, dagAt_eq_dagOf h]
  rfl

theorem State.setIndex_settled (g : Dag) (i : Slot) (v : Word) : s.setIndex g i v = withIndex s g i v := by
  rw [setIndex, updDag, dagAt_eq_dagOf h, secDag_closed h]
  rfl

theorem State.postModify_settled (g : Dag) (i m : Slot) :
    s.postModify s g i m = withIndex s g i (nextIndex s g i (mdf s g m)) := by
  rw [postModify, setIndex_settled h, dagNext_settled h, modifier_settled h]

end SettledState

theorem settled_withIndex {s : State} (h : Settled s) (g : Dag) (i : Slot) (v : Word) : Settled (withIndex s g i v) := h

theorem dagOf_withIndex (s : State) (g : Dag) (i : Slot) (v : Word) :
    dagOf (withIndex s g i v) g = { dagOf s g with i := (dagOf s g).i.set i v } := by
  simp only [dagOf, withIndex, Banked.get_set_same, DagBank.get_set_same]

theorem idx_withIndex (s : State) (g : Dag) (i : Slot) (v : Word) : idx (withIndex s g i v) g i = v := by
  rw [idx, dagOf_withIndex, Quad.get_set_same]

theorem exec_modify {s : State} (h : Settled s) (g : Dag) (i m : Slot) :
    exec (.modify g i m) s = .next (withIndex s g i (nextIndex s g i (mdf s g m))) :=
  congrArg Host.Outcome.next (State.postModify_settled h g i m)

/-- In a buffer within a page, one wrap brings a sum by at most the length back into the buffer (D20). -/
theorem wrap_in_buffer {b l x m : Int} (hpos : 0 < l) (hend : b + l ≤ 65536) (hb : 0 ≤ b) (hlow : b ≤ x) (hhigh : x < b + l)
    (hmin : -l ≤ m) (hmax : m ≤ l) :
    let w := BitVec.ofInt 16 (if l = 0 then x + m else if b + l ≤ x + m then x + m - l else if x + m < b then x + m + l
      else x + m)
    b ≤ w.toNat ∧ (w.toNat : Int) < b + l ∧ l ∣ (w.toNat : Int) - (x + m) := by
  have hnat : ∀ e : Int, 0 ≤ e → e < 65536 → ((BitVec.ofInt 16 e).toNat : Int) = e := fun e h0 h1 => by
    rw [BitVec.toNat_ofInt]
    omega
  dsimp only
  rw [if_neg (show l ≠ 0 by omega)]
  by_cases habove : b + l ≤ x + m
  · rw [if_pos habove, hnat _ (by omega) (by omega)]
    exact ⟨by omega, by omega, ⟨-1, by omega⟩⟩
  by_cases hbelow : x + m < b
  · rw [if_neg habove, if_pos hbelow, hnat _ (by omega) (by omega)]
    exact ⟨by omega, by omega, ⟨1, by omega⟩⟩
  · rw [if_neg habove, if_neg hbelow, hnat _ (by omega) (by omega)]
    exact ⟨by omega, by omega, ⟨0, by omega⟩⟩

end Sys2Proof.Machine

namespace Sys2Proof.Claims

open Sys2Proof.Machine

/-- Settles O42. -/
theorem modifyInstructions : Obligations.ModifyInstructions := by
  refine fun s g i m n h => ⟨exec_modify h g i m, ?_⟩
  show Host.Outcome.next (s.setIndex g i (s.dagNext g i (immModify n))) = _
  rw [State.setIndex_settled h, State.dagNext_settled h]
  rfl

/-- Settles O43. -/
theorem circularBuffersKeepTheirIndex : Obligations.CircularBuffersKeepTheirIndex := by
  intro s t g i m h b l hpos hend hlow hhigh hmin hmax he
  obtain rfl := Host.Outcome.next.inj ((exec_modify h g i m).symm.trans he)
  rw [idx_withIndex]
  exact wrap_in_buffer hpos hend (Int.natCast_nonneg _) hlow hhigh hmin hmax

end Sys2Proof.Claims
end

section
/-! SUPPORT, O34, O37, O38, O45 and O46. The whole effect of a write of a core register in a settled state
(spec/44_data_move.md R370, R371), register by register kind: data registers (`moved_loadDreg`), DAG registers, SE and SB, and
the registers that stand alone in the state; then the moves, the loads and the reads of the two other spaces. -/

namespace Sys2Proof.Machine

open Sys2Proof.Claims

/-! ## The kinds of registers -/

/-- The registers that are each a field of the state of their own (SSTAT, which no write reaches, included). -/
inductive StandsAlone : Reg → Prop
  | imask : StandsAlone (.g1 .imask)
  | irptl : StandsAlone (.g1 .irptl)
  | icntl : StandsAlone (.g1 .icntl)
  | stacka : StandsAlone (.g1 .stacka)
  | cntr : StandsAlone (.g2 .cntr)
  | lpstacka : StandsAlone (.g2 .lpstacka)
  | astat : StandsAlone (.g3 .astat)
  | mstat : StandsAlone (.g3 .mstat)
  | sstat : StandsAlone (.g3 .sstat)
  | lpstackp : StandsAlone (.g3 .lpstackp)
  | ccode : StandsAlone (.g3 .ccode)
  | px : StandsAlone (.g3 .px)
  | dmpg1 : StandsAlone (.g3 .dmpg1)
  | dmpg2 : StandsAlone (.g3 .dmpg2)
  | iopg : StandsAlone (.g3 .iopg)
  | ijpg : StandsAlone (.g3 .ijpg)
  | stackp : StandsAlone (.g3 .stackp)

/-- Every core register is a data register, a DAG register, SE, SB, or stands alone. -/
theorem reg_kinds (q : Reg) :
    (∃ d, q = .g0 d) ∨ (∃ g k n, q = kindReg g k n) ∨ q = .g3 .se ∨ q = .g3 .sb ∨ StandsAlone q := by
  rcases q with d | r | r | r
  · exact .inl ⟨d, rfl⟩
  · cases r
    case i0 => exact .inr (.inl ⟨.dag1, .i, .s0, rfl⟩)
    case i1 => exact .inr (.inl ⟨.dag1, .i, .s1, rfl⟩)
    case i2 => exact .inr (.inl ⟨.dag1, .i, .s2, rfl⟩)
    case i3 => exact .inr (.inl ⟨.dag1, .i, .s3, rfl⟩)
    case m0 => exact .inr (.inl ⟨.dag1, .m, .s0, rfl⟩)
    case m1 => exact .inr (.inl ⟨.dag1, .m, .s1, rfl⟩)
    case m2 => exact .inr (.inl ⟨.dag1, .m, .s2, rfl⟩)
    case m3 => exact .inr (.inl ⟨.dag1, .m, .s3, rfl⟩)
    case l0 => exact .inr (.inl ⟨.dag1, .l, .s0, rfl⟩)
    case l1 => exact .inr (.inl ⟨.dag1, .l, .s1, rfl⟩)
    case l2 => exact .inr (.inl ⟨.dag1, .l, .s2, rfl⟩)
    case l3 => exact .inr (.inl ⟨.dag1, .l, .s3, rfl⟩)
    all_goals exact .inr (.inr (.inr (.inr (by constructor))))
  · cases r
    case i4 => exact .inr (.inl ⟨.dag2, .i, .s0, rfl⟩)
    case i5 => exact .inr (.inl ⟨.dag2, .i, .s1, rfl⟩)
    case i6 => exact .inr (.inl ⟨.dag2, .i, .s2, rfl⟩)
    case i7 => exact .inr (.inl ⟨.dag2, .i, .s3, rfl⟩)
    case m4 => exact .inr (.inl ⟨.dag2, .m, .s0, rfl⟩)
    case m5 => exact .inr (.inl ⟨.dag2, .m, .s1, rfl⟩)
    case m6 => exact .inr (.inl ⟨.dag2, .m, .s2, rfl⟩)
    case m7 => exact .inr (.inl ⟨.dag2, .m, .s3, rfl⟩)
    case l4 => exact .inr (.inl ⟨.dag2, .l, .s0, rfl⟩)
    case l5 => exact .inr (.inl ⟨.dag2, .l, .s1, rfl⟩)
    case l6 => exact .inr (.inl ⟨.dag2, .l, .s2, rfl⟩)
    case l7 => exact .inr (.inl ⟨.dag2, .l, .s3, rfl⟩)
    all_goals exact .inr (.inr (.inr (.inr (by constructor))))
  · cases r
    case se => exact .inr (.inr (.inl rfl))
    case sb => exact .inr (.inr (.inr (.inl rfl)))
    all_goals exact .inr (.inr (.inr (.inr (by constructor))))

/-- A DAG register's content, by its place. -/
theorem content_kindReg (s t : State) (g : Dag) (k : DagKind) (n : Slot) :
    content s t (kindReg g k n) = ((t.dags.get (s.mstat.getLsbD 6)).get g).get k n := by
  cases g <;> cases k <;> cases n <;> rfl

theorem writeReg_kindReg (s : State) (g : Dag) (k : DagKind) (n : Slot) (v : Word) :
    s.writeReg (kindReg g k n) v = s.loadDag g k n v := by
  cases g <;> cases k <;> cases n <;> rfl

/-- A DAG register is none of the registers that a rule of moves singles out. -/
theorem kindReg_plain (g : Dag) (k : DagKind) (n : Slot) :
    (kindReg g k n ≠ .g1 .irptl ∧ kindReg g k n ≠ .g1 .icntl) ∧ broughtAlong (kindReg g k n) = [] ∧
    (∀ v, kept (kindReg g k n) v = v) ∧
      ∀ s, windowsAfter (kindReg g k n) s = s.windows := by
  cases g <;> cases k <;> cases n <;> exact ⟨⟨nofun, nofun⟩, rfl, fun _ => rfl, fun _ => rfl⟩

theorem DagRegs.get_set (r : DagRegs) (k k' : DagKind) (n n' : Slot) (v : Word) :
    (r.set k n v).get k' n' = if k' = k ∧ n' = n then v else r.get k' n' := by
  cases k <;> cases k' <;> cases n <;> cases n' <;> rfl

theorem DagRegs.set_b (r : DagRegs) (k : DagKind) (n : Slot) (v : Word) : (r.set k n v).b = r.b := by cases k <;> rfl

/-- A register outside the DAGs keeps its content under a change of the DAG registers. -/
theorem content_withDags (s : State) (b : Banked DagBank) {q : Reg} (hq : ∀ g k n, q ≠ kindReg g k n) :
    content s { s with dags := b } q = content s s q := by
  rcases reg_kinds q with ⟨d, rfl⟩ | ⟨g, k, n, rfl⟩ | rfl | rfl | ha
  · rfl
  · exact absurd rfl (hq g k n)
  · rfl
  · rfl
  · cases ha <;> rfl

/-- In a settled state a register's content is what a store or a load of it moves. -/
theorem content_self {s : State} (h : Settled s) (r : Reg) : content s s r = s.regZx r := by
  have hs : { s with windows := Windows.closed } = s := by rw [← h]
  unfold content
  split
  next hr => rw [hr]; rfl
  next => exact congrArg (State.regZx · r) hs

/-! ## DAG registers -/

section SettledState

variable {s : State} (h : Settled s)
include h

theorem State.dags_loadDag (g : Dag) (k : DagKind) (n : Slot) (v : Word) : (s.loadDag g k n v).dags
    = s.dags.set (s.mstat.getLsbD 6) ((s.dags.get (s.mstat.getLsbD 6)).set g ((dagOf s g).set k n v)) := by
  rw [loadDag, updDag_dags, secDag_closed h, dagAt_eq_dagOf h]

theorem State.dagOf_loadDag (g g' : Dag) (k : DagKind) (n : Slot) (v : Word) :
    ((s.loadDag g k n v).dags.get (s.mstat.getLsbD 6)).get g' = if g' = g then (dagOf s g).set k n v else dagOf s g' := by
  rw [dags_loadDag h, Banked.get_set_same]
  by_cases hg : g' = g
  · rw [if_pos hg, hg, DagBank.get_set_same]
  · rw [if_neg hg, DagBank.get_set_ne _ _ hg]
    rfl

/-- The whole effect of a move into an index, modify or length register. -/
theorem State.moved_loadDag (g : Dag) (k : DagKind) (n : Slot) (v : Word) :
    Moved (kindReg g k n) v s (s.loadDag g k n v) := by
  obtain ⟨⟨hirptl, hicntl⟩, halong, hkept, hwin⟩ := kindReg_plain g k n
  have hlatch : ¬MayLatchLevel (kindReg g k n) v s := fun ⟨he, _⟩ => hicntl he
  refine ⟨?same, fun q hq => ?_, fun q hr _ _ => ?other, fun _ _ => ?_, fun hl => absurd hl hlatch, rfl, rfl, fun g' => ?base,
    ?bank, ?frame⟩
  case same => rw [content_kindReg, dagOf_loadDag h, if_pos rfl, DagRegs.get_set, if_pos ⟨rfl, rfl⟩, hkept]
  case other =>
    by_cases hq : ∃ g' k' n', q = kindReg g' k' n'
    · obtain ⟨g', k', n', rfl⟩ := hq
      rw [content_kindReg, content_kindReg, dagOf_loadDag h]
      by_cases hg : g' = g
      · have hkn : ¬(k' = k ∧ n' = n) := fun ⟨hk, hn⟩ => hr (by rw [hg, hk, hn])
        rw [if_pos hg, DagRegs.get_set, if_neg hkn, hg]
        rfl
      · rw [if_neg hg]
        rfl
    · exact content_withDags s _ fun g' k' n' he => hq ⟨g', k', n', he⟩
  case base =>
    rw [dagOf_loadDag h]
    split
    next hg => rw [DagRegs.set_b, hg]
    next => rfl
  case bank => rw [dags_loadDag h, Banked.get_set_other]
  case frame =>
    rw [hwin]
    rfl
  · rw [halong] at hq
    exact absurd hq List.not_mem_nil
  · rw [if_neg hirptl]
    rfl

/-! ## SE and SB -/

/-- The whole effect of a change of SE or SB: `r` is the one, and the other and all else of the bank stay. -/
theorem State.moved_updData {r : Reg} {v : Word} {role : Role} {f : DataRegs → DataRegs} (hr : r = .g3 .se ∨ r = .g3 .sb)
    (hget : ∀ x d, (f x).get d = x.get d) (haf : ∀ x, (f x).af = x.af)
    (hse : ∀ x, (f x).se = if r = .g3 .se then v else x.se) (hsb : ∀ x, (f x).sb = if r = .g3 .sb then v else x.sb) :
    Moved r v s (s.updData role f) := by
  have hbank : (s.updData role f).data.get (s.mstat.getLsbD 0) = f (bank s) := bank_updData h role f
  have hcse : content s (s.updData role f) (.g3 .se) = (f (bank s)).se := congrArg DataRegs.se hbank
  have hcsb : content s (s.updData role f) (.g3 .sb) = (f (bank s)).sb := congrArg DataRegs.sb hbank
  have hlatch : ¬MayLatchLevel r v s := by
    rintro ⟨he, _⟩
    rcases hr with rfl | rfl <;> exact Reg.noConfusion he
  refine ⟨?same, fun q hq => ?along, fun q hq _ _ => ?other, fun _ _ => ?irptl, fun hl => absurd hl hlatch,
    (congrArg DataRegs.af hbank).trans (haf _), otherBank_updData h role f, fun _ => rfl, rfl, ?frame⟩
  case same =>
    rcases hr with rfl | rfl
    · rw [hcse, hse, if_pos rfl]
      rfl
    · rw [hcsb, hsb, if_pos rfl]
      rfl
  case along => rcases hr with rfl | rfl <;> exact absurd hq List.not_mem_nil
  case other =>
    by_cases hd : ∃ d, q = .g0 d
    · obtain ⟨d, rfl⟩ := hd
      exact (congrArg (DataRegs.get · d) hbank).trans (hget _ d)
    by_cases hqse : q = .g3 .se
    · rw [hqse, hcse, hse, if_neg (hqse ▸ hq.symm)]
      rfl
    by_cases hqsb : q = .g3 .sb
    · rw [hqsb, hcsb, hsb, if_neg (hqsb ▸ hq.symm)]
      rfl
    · rcases reg_kinds q with hq0 | ⟨g, k, n, rfl⟩ | hq0 | hq0 | ha
      · exact absurd hq0 hd
      · rw [content_kindReg, content_kindReg]
        rfl
      · exact absurd hq0 hqse
      · exact absurd hq0 hqsb
      · cases ha <;> rfl
  case irptl => rcases hr with rfl | rfl <;> rfl
  case frame => rcases hr with rfl | rfl <;> rfl

end SettledState

/-! ## Registers that stand alone -/

/-- A write of a register that stands alone leaves the register files alone, and no register moves along. -/
theorem State.writeReg_alone (s : State) {r : Reg} (hr : StandsAlone r) (v : Word) :
    (s.writeReg r v).data = s.data ∧ (s.writeReg r v).dags = s.dags ∧ broughtAlong r = [] := by
  cases hr <;> exact ⟨rfl, rfl, rfl⟩

/-- A write of a register that stands alone leaves the content of every other register as it was, but for IRPTL. -/
theorem State.content_writeReg_alone (s : State) {r q : Reg} (hr : StandsAlone r) (v : Word) (hq : q ≠ r)
    (hirptl : q ≠ .g1 .irptl) : content s (s.writeReg r v) q = content s s q := by
  obtain ⟨hdata, hdags, -⟩ := s.writeReg_alone hr v
  rcases reg_kinds q with ⟨d, rfl⟩ | ⟨g, k, n, rfl⟩ | rfl | rfl | ha
  · rw [content_g0, content_g0, hdata]
  · rw [content_kindReg, content_kindReg, hdags]
  · exact congrArg (fun b : Banked DataRegs => (b.get (s.mstat.getLsbD 0)).se) hdata
  · exact congrArg (fun b : Banked DataRegs => (b.get (s.mstat.getLsbD 0)).sb) hdata
  · cases hr <;> cases ha <;> first | rfl | exact absurd rfl hq | exact absurd rfl hirptl

theorem setWidth_extract_eq_and {n : Nat} (v m : Word) (hm : ∀ i, i < 16 → m.getLsbD i = decide (i < n)) :
    (v.extractLsb' 0 n).setWidth 16 = v &&& m := by
  apply BitVec.eq_of_getLsbD_eq
  intro i hi
  rw [BitVec.getLsbD_setWidth, BitVec.getLsbD_extractLsb', BitVec.getLsbD_and, hm i hi, Nat.zero_add]
  simp [hi, Bool.and_comm]

theorem LoopPage.read_ofWord (v : Word) : (LoopPage.ofWord v).read = v &&& 0x80FF#16 := by
  have hmask : ∀ i, i < 16 → (0x80FF#16).getLsbD i = decide (i < 8 ∨ i = 15) := by decide
  apply BitVec.eq_of_getLsbD_eq
  intro i hi
  rw [BitVec.getLsbD_and, hmask i hi]
  simp only [LoopPage.read, LoopPage.ofWord, BitVec.getLsbD_append, BitVec.getLsbD_extractLsb', Nat.zero_add]
  by_cases hlow : i < 8
  · simp [hlow]
  by_cases htop : i = 15
  · subst htop
    cases v.getLsbD 15 <;> simp [bit]
  · have hmid : i - 8 < 7 := by omega
    simp [hlow, htop, hmid]

/-- What a register that stands alone keeps of a value (R370, R371). -/
theorem State.content_writeReg_same (s : State) {r : Reg} (hr : StandsAlone r) (hs : r ≠ .g3 .sstat) (v : Word) :
    content s (s.writeReg r v) r = kept r v := by
  have hbyte : (v.extractLsb' 0 8).setWidth 16 = v &&& 0x00FF#16 := setWidth_extract_eq_and v _ (by decide)
  cases hr
  case sstat => exact absurd rfl hs
  case imask | irptl | icntl | stacka | cntr | lpstacka => rfl
  case astat => exact setWidth_extract_eq_and (n := 9) v 0x01FF#16 (by decide)
  case mstat => exact setWidth_extract_eq_and (n := 7) v 0x007F#16 (by decide)
  case ccode => exact setWidth_extract_eq_and (n := 4) v 0x000F#16 (by decide)
  case lpstackp => exact LoopPage.read_ofWord v
  all_goals exact hbyte

theorem bit_get_zero (b : Bool) : (bit b).getLsbD 0 = b := by cases b <;> rfl

/-- The level bit of SSTAT (R50). -/
theorem State.sstat_level (s : State) : s.sstat.getLsbD 2 = decide (28 ≤ s.pcStack.length ∨ s.pcStack.length ≤ 3) := by
  simp only [sstat, BitVec.getLsbD_append, Nat.reduceLT, Nat.reduceSub, decide_false, decide_true, Bool.false_eq_true,
    if_false, if_true, cond_true, cond_false, Nat.lt_irrefl, bit_get_zero]

/-- What a write of a register that stands alone does to the requests (R512, V6). -/
theorem State.irptl_writeReg_alone (s : State) {r : Reg} (hr : StandsAlone r) (v : Word) :
    (∀ i, (i = 3 → ¬MayLatchLevel r v s) →
      (s.writeReg r v).irptl.getLsbD i = if r = .g1 .irptl then v.getLsbD i else s.irptl.getLsbD i) ∧
    (MayLatchLevel r v s → s.irptl.getLsbD 3 = true → (s.writeReg r v).irptl.getLsbD 3 = true) := by
  by_cases hr' : r = .g1 .icntl
  · subst hr'
    have hlevel : MayLatchLevel (.g1 .icntl) v s ↔
        (!s.icntl.getLsbD 10 && v.getLsbD 10 && s.sstat.getLsbD 2) = true := by
      rw [MayLatchLevel, s.sstat_level, Bool.and_eq_true, Bool.and_eq_true, Bool.not_eq_true', decide_eq_true_eq]
      exact ⟨fun ⟨_, h0, h1, hp⟩ => ⟨⟨h0, h1⟩, hp⟩, fun ⟨⟨h0, h1⟩, hp⟩ => ⟨rfl, h0, h1, hp⟩⟩
    have hset : (s.writeReg (.g1 .icntl) v).irptl
        = if (!s.icntl.getLsbD 10 && v.getLsbD 10 && s.sstat.getLsbD 2 && (s.free 1 .levelRequest).getLsbD 0) = true
          then putBit s.irptl 3 true else s.irptl := rfl
    rw [hlevel, hset]
    refine ⟨fun i hi => ?_, fun _ hreq => ?_⟩
    · split
      next hc =>
        have hne : i ≠ 3 := fun hi3 => hi hi3 (Bool.and_eq_true_iff.mp hc).1
        exact putBit_ne _ _ _ _ (by omega) hne
      next => rfl
    · split
      next => exact putBit_same _ _ _ (by omega)
      next => exact hreq
  · refine ⟨fun i _ => ?_, fun ⟨he, _⟩ => absurd he hr'⟩
    cases hr
    case icntl => exact absurd rfl hr'
    all_goals rfl

section SettledState

variable {s : State} (h : Settled s)
include h

/-- The windows after a write (R560). -/
theorem State.windows_writeReg (r : Reg) (v : Word) : (s.writeReg r v).windows = windowsAfter r s := by
  have hw : s.windows = Windows.closed := h
  rcases reg_kinds r with ⟨d, rfl⟩ | ⟨g, k, n, rfl⟩ | rfl | rfl | ha
  · rfl
  · obtain ⟨-, -, -, hwin⟩ := kindReg_plain g k n
    rw [writeReg_kindReg, hwin]
    rfl
  · rfl
  · rfl
  · cases ha
    case imask => simp only [writeReg, writeReg1, writeImask_windows, windowsAfter, hw]; rfl
    case icntl => simp only [writeReg, writeReg1, writeIcntl_windows, windowsAfter, hw]; rfl
    case cntr => simp only [writeReg, writeReg2, writeCntr_windows, windowsAfter, hw]; rfl
    case astat => simp only [writeReg, writeReg3, writeAstat_windows, windowsAfter, hw]; rfl
    case mstat => simp only [writeReg, writeReg3, writeMstat, windowsAfter, mstatWindows, hw]; rfl
    case ccode => simp only [writeReg, writeReg3, writeCcode_windows, windowsAfter, hw]; rfl
    all_goals rfl

theorem State.moved_writeReg_alone {r : Reg} (hr : StandsAlone r) (hs : r ≠ .g3 .sstat) (v : Word) :
    Moved r v s (s.writeReg r v) := by
  obtain ⟨hdata, hdags, halong⟩ := s.writeReg_alone hr v
  obtain ⟨hirptl, hlatch⟩ := s.irptl_writeReg_alone hr v
  refine ⟨s.content_writeReg_same hr hs v, fun q hq => ?_, fun q hq _ hi => s.content_writeReg_alone hr v hq hi, hirptl, hlatch,
    congrArg (fun b : Banked DataRegs => (b.get (s.mstat.getLsbD 0)).af) hdata,
    congrArg (fun b : Banked DataRegs => b.get (!s.mstat.getLsbD 0)) hdata, fun g =>
    congrArg (fun b : Banked DagBank => ((b.get (s.mstat.getLsbD 6)).get g).b) hdags,
    congrArg (fun b : Banked DagBank => b.get (!s.mstat.getLsbD 6)) hdags, ?_⟩
  · rw [halong] at hq
    exact absurd hq List.not_mem_nil
  · rw [← windows_writeReg h r v]
    exact s.writeReg_frame r v

/-- The whole effect of `reg_write` (R371). -/
theorem State.moved_writeReg {r : Reg} (hs : r ≠ .g3 .sstat) (v : Word) : Moved r v s (s.writeReg r v) := by
  rcases reg_kinds r with ⟨d, rfl⟩ | ⟨g, k, n, rfl⟩ | rfl | rfl | ha
  · exact moved_loadDreg h .moveDest d v
  · rw [writeReg_kindReg]
    exact moved_loadDag h g k n v
  · exact moved_updData h (f := fun x => { x with se := v }) (.inl rfl) (fun x d => by cases d <;> rfl) (fun _ => rfl)
      (fun _ => rfl) fun _ => rfl
  · exact moved_updData h (f := fun x => { x with sb := v }) (.inr rfl) (fun x d => by cases d <;> rfl) (fun _ => rfl)
      (fun _ => rfl) fun _ => rfl
  · exact moved_writeReg_alone h ha hs v

/-- A move or load into any register but SSTAT completes, with the whole effect of the write. -/
theorem State.moved_into {r : Reg} (hs : r ≠ .g3 .sstat) (v : Word) :
    ∃ t, (s.writeReg r v).moveInto r = .next t ∧ Moved r v s t := by
  refine ⟨s.writeReg r v, ?_, moved_writeReg h hs v⟩
  have hw : r.writable = true := by
    rcases r with d | r | r | r
    case g3 => cases r <;> first | rfl | exact absurd rfl hs
    all_goals rfl
  rw [moveInto, if_pos hw]

end SettledState

theorem State.moveInto_sstat (s : State) : s.moveInto (.g3 .sstat) = .refused .readOnlyRegister := rfl

/-! ## Type 3 and Type 32 loads -/

theorem State.loadImReg_eq (s : State) (r : DagReg) (v : Word) : s.loadImReg r v = s.writeReg (imReg r) v := by
  rcases r with ⟨g, n⟩ | ⟨g, n⟩
  · exact (writeReg_kindReg s g .i n v).symm
  · exact (writeReg_kindReg s g .m n v).symm

theorem imReg_ne_sstat (r : DagReg) : imReg r ≠ .g3 .sstat := by
  rcases r with ⟨g, n⟩ | ⟨g, n⟩ <;> cases g <;> cases n <;> nofun

end Sys2Proof.Machine

namespace Sys2Proof.Claims

open Sys2Proof.Machine

/-- Settles O34. -/
theorem registerMoves : Obligations.RegisterMoves := by
  intro s h
  refine ⟨fun d src v hv => ?move, fun k r => ⟨_, rfl, State.moved_writeReg h (r := .g1 r) nofun k⟩,
    fun k r => ⟨_, rfl, State.moved_writeReg h (r := .g2 r) nofun k⟩, fun k r => ?imm3⟩
  case move =>
    have hsx : s.regSx src = v := by
      rcases src with d | r | r | r
      · exact (content_self h _).symm.trans hv.symm
      · exact (content_self h _).symm.trans hv.symm
      · exact (content_self h _).symm.trans hv.symm
      · cases r
        case se | sb | lpstackp => exact (content_self h _).symm.trans hv.symm
        case sstat => exact (congrArg (BitVec.signExtend 16) (State.sstatRead_closed h)).trans hv.symm
        all_goals exact hv.symm
    split
    next hd => rw [hd]; rfl
    next hd => exact hsx ▸ State.moved_into h hd _
  case imm3 =>
    split
    next hr => rw [hr]; rfl
    next hr =>
      have hk : BitVec.ofNat 16 k.toNat = k.setWidth 16 := BitVec.eq_of_toNat_eq (by simp)
      rw [hk]
      exact State.moved_into h (r := .g3 r) (fun he => hr (Reg.g3.inj he)) (k.setWidth 16)

/-- Settles O37. -/
theorem dataMemoryLoads : Obligations.DataMemoryLoads := by
  intro s g i m n h imm
  have hw := settled_withIndex h g i
  refine ⟨fun a d => ⟨_, rfl, State.moved_loadDreg h .moveDest d _⟩, fun a r => ⟨_, rfl, ?dag⟩, fun r => ?post,
    fun r => ?pre,
    fun d => ⟨_, rfl, ?immPost⟩, fun d => ⟨_, rfl, ?immPre⟩⟩
  case dag =>
    rw [State.loadImReg_eq]
    exact State.moved_writeReg h (imReg_ne_sstat r) _
  case post =>
    have he : exec (.dmReadPost g r i m) s = ((withIndex s g i (nextIndex s g i (mdf s g m))).writeReg r
        (s.read16 (busAddress s g (idx s g i)))).moveInto r := by
      rw [← State.postModify_settled h, ← State.postAddress_settled h]
      rfl
    rw [he]
    split
    next hr => rw [hr]; rfl
    next hr => exact State.moved_into (hw _) hr _
  case pre =>
    have he : exec (.dmReadPre g r i m) s
        = (s.writeReg r (s.read16 (busAddress s g (idx s g i + mdf s g m)))).moveInto r := by
      rw [← State.preAddress_settled h, ← State.modifier_settled h]
      rfl
    rw [he]
    split
    next hr => rw [hr]; rfl
    next hr => exact State.moved_into h hr _
  case immPost =>
    rw [State.setIndex_settled h, State.dagNext_settled h, State.postAddress_settled h]
    exact State.moved_loadDreg (hw _) .moveDest d _
  case immPre =>
    rw [State.preAddress_settled h]
    exact State.moved_loadDreg h .moveDest d _

/-- Settles O38. -/
theorem programMemoryLoads : Obligations.ProgramMemoryLoads := by
  intro s g r i m h post pre
  have hpost : exec (.pmReadPost g r i m) s = (({ withIndex s g i (nextIndex s g i (mdf s g m)) with
      px := post.extractLsb' 0 8 } : State).writeReg r (post.extractLsb' 8 16)).moveInto r := by
    show ((s.postModify s g i m).loadPm r (s.read24 (s.postAddress g i))).moveInto r = _
    rw [State.postModify_settled h, State.postAddress_settled h]
    rfl
  have hpre : exec (.pmReadPre g r i m) s
      = (({ s with px := pre.extractLsb' 0 8 } : State).writeReg r (pre.extractLsb' 8 16)).moveInto r := by
    show (s.loadPm r (s.read24 (s.preAddress g i (s.modifier g m)))).moveInto r = _
    rw [State.preAddress_settled h, State.modifier_settled h]
    rfl
  rw [hpost, hpre]
  constructor
  all_goals split
  · next hr => rw [hr]; rfl
  · next hr => exact State.moved_into (s := { withIndex s g i _ with px := _ }) h hr _
  · next hr => rw [hr]; rfl
  · next hr => exact State.moved_into (s := { s with px := pre.extractLsb' 0 8 }) h hr _

/-- Settles O45. -/
theorem inputOutputSpace : Obligations.InputOutputSpace := by
  refine fun s a d h => ⟨⟨_, _, rfl, State.moved_loadDreg h .moveDest d _⟩, ?_⟩
  show Host.Outcome.next { s with outputs := .io (s.iopg ++ a) (s.dreg .moveSource d) :: s.outputs } = _
  rw [State.dreg, State.dataAt_eq_bank h]

/-- The addresses 0 to 7 name B0 to B7 in order (D17). -/
theorem baseRegister_eq (a : BitVec 8) (ha : a.toNat < 8) :
    baseDag a = (if a.toNat < 4 then .dag1 else .dag2) ∧
    baseSlot a = (if a.toNat % 4 = 0 then .s0 else if a.toNat % 4 = 1 then .s1 else if a.toNat % 4 = 2 then .s2 else .s3) := by
  have hfin : ∀ k, k < 8 → baseDag (BitVec.ofNat 8 k) = (if k < 4 then .dag1 else .dag2) ∧ baseSlot (BitVec.ofNat 8 k)
      = (if k % 4 = 0 then .s0 else if k % 4 = 1 then .s1 else if k % 4 = 2 then .s2 else .s3) := by decide
  simpa only [BitVec.ofNat_toNat, BitVec.setWidth_eq] using hfin a.toNat ha

/-- Settles O46. -/
theorem systemControlSpace : Obligations.SystemControlSpace := by
  intro s a d h g n
  have hult : a.ult 8#8 = decide (a.toNat < 8) := rfl
  refine ⟨⟨_, _, rfl, State.moved_loadDreg h .moveDest d _, fun ha => ?read⟩, ?write⟩
  case read =>
    obtain ⟨hg, hn⟩ := baseRegister_eq a ha
    rw [if_pos (by rw [hult]; exact decide_eq_true ha), hg, hn, State.dagAt_eq_dagOf h]
    rfl
  case write =>
    show (if a.ult 8#8 then Host.Outcome.next (s.updDag (baseDag a) .moveDest fun x => x.setB (baseSlot a) (s.dreg .moveSource d))
      else .next { s with outputs := .sys a (s.dreg .moveSource d) :: s.outputs }) = _
    rw [hult, State.dreg, State.dataAt_eq_bank h]
    by_cases ha : a.toNat < 8
    · obtain ⟨hg, hn⟩ := baseRegister_eq a ha
      rw [if_pos (decide_eq_true ha), if_pos ha, hg, hn, State.updDag, State.secDag_closed h, State.dagAt_eq_dagOf h]
      rfl
    · rw [if_neg (by simpa using ha), if_neg ha]

end Sys2Proof.Claims
end

section
/-! SUPPORT, O39 to O41 and O44. Stores (spec/44_data_move.md R380 to R389, spec/20_memory.md R107, R123): what a write of a
location leaves, a store with its index update, and the words that loads and fetches see afterwards. -/

namespace Sys2Proof.Machine

open Sys2Proof.Claims

/-! ## A write of one location (R107) -/

theorem onlyAt_write16 (s : State) (a : Addr) (v : Word) : OnlyAt a s (s.write16 a v) :=
  fun _ hk => s.readByte_write16_ne a v hk

theorem onlyAt_write24 (s : State) (a : Addr) (v : Code) : OnlyAt a s (s.write24 a v) :=
  fun _ hk => s.readByte_write24_ne a v hk

theorem storedDm_write16 {s : State} (hwf : s.mem.wf = true) (a : Addr) (v : Word) : StoredDm a v s (s.write16 a v) := by
  refine ⟨onlyAt_write16 s a v, ?_⟩
  rcases s.write16_cases a v with ⟨hwidth, he⟩ | ⟨hwidth, he⟩ | ⟨hwidth, he⟩ <;> simp only [hwidth, he]
  · rw [Memory.readLoc_writeLoc_eq hwf, field_append_right _ _ _ _ (by omega), field_whole]
  · exact Memory.readLoc_writeLoc_eq hwf a _

theorem storedPm_write24 {s : State} (hwf : s.mem.wf = true) (a : Addr) (v : Code) : StoredPm a v s (s.write24 a v) := by
  refine ⟨onlyAt_write24 s a v, ?_⟩
  rcases s.write24_cases a v with ⟨hwidth, he⟩ | ⟨hwidth, he⟩ | ⟨hwidth, he⟩ <;> simp only [hwidth, he]
  · rw [Memory.readLoc_writeLoc_eq hwf, field_append_right _ _ _ _ (by omega), field_whole]
  · exact Memory.readLoc_writeLoc_eq hwf a _

theorem memoryOnly_write16 (s : State) (a : Addr) (v : Word) : MemoryOnly s (s.write16 a v) := s.write16_frame a v

theorem memoryOnly_write24 (s : State) (a : Addr) (v : Code) : MemoryOnly s (s.write24 a v) := s.write24_frame a v

/-! ## A write beside an index update -/

/-- An index update of a state that differs in memory alone. -/
theorem setIndex_of_memoryOnly {s t : State} (h : Settled s) (ht : MemoryOnly s t) (g : Dag) (i : Slot) (v : Word) :
    t.setIndex g i v = { withIndex s g i v with mem := t.mem, stale := t.stale } := by
  have hset : Settled t := by
    rw [ht]
    exact h
  rw [State.setIndex_settled hset, ht]
  rfl

/-- A postmodify store to data memory: the store, and the index update. -/
theorem storedDm_setIndex {s : State} (h : Settled s) (hwf : s.mem.wf = true) (a : Addr) (v : Word) (g : Dag) (i : Slot)
    (w : Word) : StoredDm a v (withIndex s g i w) ((s.write16 a v).setIndex g i w) ∧
      MemoryOnly (withIndex s g i w) ((s.write16 a v).setIndex g i w) := by
  rw [setIndex_of_memoryOnly h (memoryOnly_write16 s a v)]
  exact ⟨storedDm_write16 hwf a v, rfl⟩

/-- A postmodify store over the PM bus. -/
theorem storedPm_setIndex {s : State} (h : Settled s) (hwf : s.mem.wf = true) (a : Addr) (v : Code) (g : Dag) (i : Slot)
    (w : Word) : StoredPm a v (withIndex s g i w) ((s.write24 a v).setIndex g i w) ∧
      MemoryOnly (withIndex s g i w) ((s.write24 a v).setIndex g i w) := by
  rw [setIndex_of_memoryOnly h (memoryOnly_write24 s a v)]
  exact ⟨storedPm_write24 hwf a v, rfl⟩

/-! ## The store instructions -/

theorem regZx_kindReg (s : State) (g : Dag) (k : DagKind) (n : Slot) : s.regZx (kindReg g k n) = s.dagReg g k n := by
  cases g <;> cases k <;> cases n <;> rfl

theorem readImReg_eq (s : State) (r : DagReg) : s.readImReg r = s.regZx (imReg r) := by
  rcases r with ⟨g, n⟩ | ⟨g, n⟩
  · exact (regZx_kindReg s g .i n).symm
  · exact (regZx_kindReg s g .m n).symm

theorem dagStoreAllowed_iff (g grp : Dag) (k : DagKind) (j i : Slot) :
    dagStoreAllowed g grp k j i = true ↔ grp = g ∧ ¬(k = .i ∧ j = i) := by
  simp only [dagStoreAllowed, Bool.and_eq_true, Bool.not_eq_true', Bool.and_eq_false_iff, decide_eq_true_eq,
    decide_eq_false_iff_not, Decidable.not_and_iff_not_or_not]

section SettledState

variable {s : State} (h : Settled s)
include h

/-- A load of a DAG register after a store: memory stays, and the load is a move. -/
theorem loadDag_after (g : Dag) (k : DagKind) (j : Slot) (v : Word) :
    (s.loadDag g k j v).mem = s.mem ∧ (s.loadDag g k j v).stale = s.stale ∧ Moved (kindReg g k j) v s (s.loadDag g k j v) :=
  ⟨rfl, rfl, State.moved_loadDag h g k j v⟩

theorem exec_dmWritePost (g : Dag) (r : Reg) (i m : Slot) : exec (.dmWritePost g r i m) s
    = .next ((s.write16 (busAddress s g (idx s g i)) (s.regZx r)).setIndex g i (nextIndex s g i (mdf s g m))) := by
  rw [← State.postAddress_settled h, ← State.dagNext_settled h, ← State.modifier_settled h]
  rfl

theorem exec_dmWritePre (g : Dag) (r : Reg) (i m : Slot) : exec (.dmWritePre g r i m) s
    = .next (s.write16 (busAddress s g (idx s g i + mdf s g m)) (s.regZx r)) := by
  rw [← State.preAddress_settled h, ← State.modifier_settled h]
  rfl

theorem exec_pmWritePost (g : Dag) (r : Reg) (i m : Slot) : exec (.pmWritePost g r i m) s
    = .next ((s.write24 (busAddress s g (idx s g i)) (s.regZx r ++ s.px)).setIndex g i (nextIndex s g i (mdf s g m))) := by
  rw [← State.postAddress_settled h, ← State.dagNext_settled h, ← State.modifier_settled h]
  rfl

theorem exec_pmWritePre (g : Dag) (r : Reg) (i m : Slot) : exec (.pmWritePre g r i m) s
    = .next (s.write24 (busAddress s g (idx s g i + mdf s g m)) (s.regZx r ++ s.px)) := by
  rw [← State.preAddress_settled h, ← State.modifier_settled h]
  rfl

theorem exec_storeImm24 (g : Dag) (i m : Slot) (v : Code) : exec (.storeImm24 g i m v) s
    = .next ((s.write24 (busAddress s g (idx s g i)) v).setIndex g i (nextIndex s g i (mdf s g m))) := by
  rw [← State.postAddress_settled h, ← State.dagNext_settled h, ← State.modifier_settled h]
  rfl

theorem exec_storeImm16 (g : Dag) (i m : Slot) (v : Word) : exec (.storeImm16 g i m v) s
    = .next ((s.write16 (busAddress s g (idx s g i)) v).setIndex g i (nextIndex s g i (mdf s g m))) := by
  rw [← State.postAddress_settled h, ← State.dagNext_settled h, ← State.modifier_settled h]
  rfl

theorem exec_immWritePost (g : Dag) (d : Dreg) (n : BitVec 8) (i : Slot) : exec (.immWritePost g d n i) s
    = .next ((s.write16 (busAddress s g (idx s g i)) ((bank s).get d)).setIndex g i
        (nextIndex s g i (BitVec.ofInt 16 n.toInt))) := by
  rw [← State.postAddress_settled h, ← State.dagNext_settled h, ← State.dataAt_eq_bank h .moveSource]
  rfl

theorem exec_immWritePre (g : Dag) (d : Dreg) (n : BitVec 8) (i : Slot) : exec (.immWritePre g d n i) s
    = .next (s.write16 (busAddress s g (idx s g i + BitVec.ofInt 16 n.toInt)) ((bank s).get d)) := by
  rw [← State.preAddress_settled h, ← State.dataAt_eq_bank h .moveSource]
  rfl

end SettledState

/-! ## Words that a fetch may see (R123) -/

/-- A write of a 24-bit location adds its word, and takes none away. -/
theorem maySee_put24 (s : State) (a b : Addr) (v x : Code) :
    MaySee (s.put24 a v) b x ↔ x = (s.mem.writeLoc a v).readLoc b ∨ MaySee s b x := by
  simp only [MaySee, State.put24_mem, State.put24_stale, List.mem_cons, or_and_right, exists_or, exists_eq_left]
  by_cases hab : b = a
  · subst hab
    simp only [true_and, eq_comm (a := s.mem.readLoc b)]
  · simp only [Memory.readLoc_writeLoc_ne _ _ hab, Ne.symm hab, false_and, false_or]
    rw [← or_assoc, or_self]

/-- A write of a 16-bit location leaves what a fetch from a 24-bit location may see. -/
theorem maySee_writeLoc_w16 {s : State} {a b : Addr} (hab : b ≠ a) (v x : Code) :
    MaySee { s with mem := s.mem.writeLoc a v } b x ↔ x = (s.mem.writeLoc a v).readLoc b ∨ MaySee s b x := by
  simp only [MaySee, Memory.readLoc_writeLoc_ne _ _ hab]
  rw [← or_assoc, or_self]

theorem maySee_write16 {s : State} {b : Addr} (hb : s.params.width b = some .w24) (a : Addr) (v : Word) (x : Code) :
    MaySee (s.write16 a v) b x ↔ x = (s.write16 a v).mem.readLoc b ∨ MaySee s b x := by
  rcases s.write16_cases a v with ⟨-, he⟩ | ⟨hwidth, he⟩ | ⟨-, he⟩ <;> rw [he]
  · exact ⟨.inr, fun hx => hx.elim .inl id⟩
  · exact maySee_writeLoc_w16 (fun hab => by rw [hab, hwidth] at hb; cases hb) _ x
  · exact maySee_put24 s a b _ x

theorem maySee_write24 {s : State} {b : Addr} (hb : s.params.width b = some .w24) (a : Addr) (v x : Code) :
    MaySee (s.write24 a v) b x ↔ x = (s.write24 a v).mem.readLoc b ∨ MaySee s b x := by
  rcases s.write24_cases a v with ⟨-, he⟩ | ⟨hwidth, he⟩ | ⟨-, he⟩ <;> rw [he]
  · exact ⟨.inr, fun hx => hx.elim .inl id⟩
  · exact maySee_writeLoc_w16 (fun hab => by rw [hab, hwidth] at hb; cases hb) _ x
  · exact maySee_put24 s a b _ x

theorem fetchWord_of_w24 {s : State} {a : Addr} (ha : s.params.width a = some .w24) :
    s.fetchWord a = some (choose (s.mem.readLoc a) ((s.stale.filter fun e => e.addr == a).map (·.old))
      (Config.pick s.tick (.fetch a))) := by
  simp only [State.fetchWord, ha]

theorem fetchWord_of_ne {s : State} {a : Addr} (ha : s.params.width a ≠ some .w24) : s.fetchWord a = none := by
  unfold State.fetchWord
  split
  next hw => exact absurd hw ha
  next => rfl

/-- A fetch sees one of the words that it may see; there is no fetch but from a 24-bit location (R102, R123). -/
theorem fetchWord_maySee (s : State) (a : Addr) :
    if s.params.width a = some .w24 then ∃ x, s.fetchWord a = some x ∧ MaySee s a x else s.fetchWord a = none := by
  split
  next ha =>
    refine ⟨_, fetchWord_of_w24 ha, ?_⟩
    rcases List.mem_cons.mp (choose_mem (s.mem.readLoc a) _ _) with hcur | hold
    · exact .inl hcur
    · obtain ⟨w, hw, he⟩ := List.mem_map.mp hold
      obtain ⟨hin, haddr⟩ := List.mem_filter.mp hw
      exact .inr ⟨w, hin, beq_iff_eq.mp haddr, he⟩
  next ha => exact fetchWord_of_ne ha

/-! ## Reads (R107) -/

theorem read24_congr {s t : State} {b : Addr} (hp : t.params = s.params) (htick : t.tick = s.tick)
    (hm : t.mem.readLoc b = s.mem.readLoc b) : t.read24 b = s.read24 b := by
  simp only [State.read24, State.free, hp, htick, hm]

theorem read16_congr {s t : State} {b : Addr} (hp : t.params = s.params) (htick : t.tick = s.tick)
    (hm : t.mem.readLoc b = s.mem.readLoc b) : t.read16 b = s.read16 b := by
  simp only [State.read16, State.free, hp, htick, hm]

/-! ## A cache flush (R465) -/

/-- A stale word after `k` further instructions of a cache flush: one of before, with a bound on its time. -/
def FlushedFrom (s : State) (k : Nat) (w : StaleWord) : Prop :=
  (∃ w₀, w₀ ∈ s.stale ∧ w₀.addr = w.addr ∧ w₀.old = w.old) ∧
  ∃ d, w.due = some d ∧ d + k ≤ 7 ∧ (k = 0 ∨ 1 ≤ d)

theorem flushedFrom_flushCache (s : State) {w : StaleWord} (hw : w ∈ s.flushCache.stale) : FlushedFrom s 0 w := by
  obtain ⟨w₀, hin, rfl⟩ := List.mem_map.mp hw
  exact ⟨⟨w₀, hin, rfl, rfl⟩, _, rfl, Nat.min_le_left _ _, .inl rfl⟩

theorem FlushedFrom.age {s : State} {k : Nat} {w : StaleWord} {l : List StaleWord} (hl : ∀ v, v ∈ l → FlushedFrom s k v)
    (hw : w ∈ ageStale l) : FlushedFrom s (k + 1) w := by
  obtain ⟨v, hv, hage⟩ := List.mem_filterMap.mp hw
  obtain ⟨hfrom, d, hd, hle, -⟩ := hl v hv
  rw [hd] at hage
  match d, hage with
  | n + 2, hage =>
    obtain rfl := Option.some.inj hage
    exact ⟨hfrom, n + 1, rfl, by omega, .inr (by omega)⟩

theorem flushedFrom_aged (s : State) (k : Nat) {w : StaleWord} (hw : w ∈ (aged k s.flushCache).stale) : FlushedFrom s k w := by
  induction k generalizing w with
  | zero => exact flushedFrom_flushCache s hw
  | succ k ih => exact FlushedFrom.age (fun v hv => ih hv) hw

theorem aged_mem (s : State) (k : Nat) : (aged k s).mem = s.mem ∧ (aged k s).params = s.params := by
  induction k with
  | zero => exact ⟨rfl, rfl⟩
  | succ k ih => exact ih

/-- After a flush a fetch sees no new word, and from the seventh instruction on the location's alone. -/
theorem fetch_after_flush (s : State) (k : Nat) (a : Addr) (ha : s.params.width a = some .w24) :
    (∀ x, MaySee (aged k s.flushCache) a x → MaySee s a x) ∧
    (7 ≤ k → (aged k s.flushCache).fetchWord a = some (s.mem.readLoc a)) := by
  obtain ⟨hmem, hparams⟩ := aged_mem s.flushCache k
  constructor
  · rintro x (hx | ⟨w, hw, haddr, hold⟩)
    · rw [hmem] at hx
      exact .inl hx
    · obtain ⟨⟨w₀, hin, ha₀, ho₀⟩, -⟩ := flushedFrom_aged s k hw
      exact .inr ⟨w₀, hin, ha₀.trans haddr, ho₀.trans hold⟩
  · intro hk
    have hnone : (aged k s.flushCache).stale = [] := by
      refine List.eq_nil_iff_forall_not_mem.mpr fun w hw => ?_
      obtain ⟨-, d, -, hle, hpos⟩ := flushedFrom_aged s k hw
      omega
    have hwidth : (aged k s.flushCache).params.width a = some .w24 := by rw [hparams]; exact ha
    rw [fetchWord_of_w24 hwidth, hnone, hmem]
    rfl

end Sys2Proof.Machine

namespace Sys2Proof.Claims

open Sys2Proof.Machine

/-- Settles O39. -/
theorem dataMemoryStores : Obligations.DataMemoryStores := by
  intro s g i m n h hwf imm here done
  have hpre : ∀ op a v, exec op s = .next (s.write16 a v) → done op a v s := fun op a v he =>
    ⟨_, he, storedDm_write16 hwf a v, memoryOnly_write16 s a v⟩
  have hpost : ∀ op v w, exec op s = .next ((s.write16 here v).setIndex g i w) → done op here v (withIndex s g i w) :=
    fun op v w he => ⟨_, he, storedDm_setIndex h hwf here v g i w⟩
  have hsstat : s.regZx (.g3 .sstat) = s.sstat.setWidth 16 := congrArg (BitVec.setWidth 16) (State.sstatRead_closed h)
  refine ⟨fun a d => hpre _ _ _ ?_, fun a r => hpre _ _ _ ?_, fun r _ => ⟨hpost _ _ _ ?_, hpre _ _ _ ?_⟩, hpost _ _ _ ?_,
    hpre _ _ _ ?_, fun d => ⟨hpost _ _ _ (exec_immWritePost h g d n i), hpre _ _ _ (exec_immWritePre h g d n i)⟩,
    fun v => hpost _ _ _ (exec_storeImm16 h g i m v)⟩
  · rw [← State.dataAt_eq_bank h .moveSource]
    rfl
  · rw [content_self h, ← readImReg_eq]
    rfl
  · rw [content_self h]
    exact exec_dmWritePost h g r i m
  · rw [content_self h]
    exact exec_dmWritePre h g r i m
  · rw [← hsstat]
    exact exec_dmWritePost h g _ i m
  · rw [← hsstat]
    exact exec_dmWritePre h g _ i m

/-- Settles O40. -/
theorem programMemoryStores : Obligations.ProgramMemoryStores := by
  intro s g i m h hwf here after done
  have hpre : ∀ op a v, exec op s = .next (s.write24 a v) → done op a v s := fun op a v he =>
    ⟨_, he, storedPm_write24 hwf a v, memoryOnly_write24 s a v⟩
  have hpost : ∀ op v, exec op s = .next ((s.write24 here v).setIndex g i (nextIndex s g i (mdf s g m))) →
      done op here v after :=
    fun op v he => ⟨_, he, storedPm_setIndex h hwf here v g i _⟩
  refine ⟨fun r => ⟨hpost _ _ ?_, hpre _ _ _ ?_⟩, fun v => hpost _ _ (exec_storeImm24 h g i m v)⟩
  · rw [content_self h]
    exact exec_pmWritePost h g r i m
  · rw [content_self h]
    exact exec_pmWritePre h g r i m

/-- Settles O41: the store is that of Type 32, and the load a move of the index or the sum. -/
theorem dagRegisterStores : Obligations.DagRegisterStores := by
  intro s g grp k j i m h hwf x sum
  have hset : ∀ t, MemoryOnly s t → Settled t := fun t ht => by rw [ht]; exact h
  have hsetI : ∀ t, MemoryOnly s t → ∀ w, Settled (t.setIndex g i w) := fun t ht w => by
    rw [setIndex_of_memoryOnly h ht]
    exact h
  split
  next hok =>
    have hallowed := (dagStoreAllowed_iff g grp k j i).mpr hok
    refine ⟨⟨_, _, exec_dmWritePost h g x i m, ?post, loadDag_after (hsetI _ (memoryOnly_write16 s _ _) _) grp k j _⟩,
      ⟨_, _, exec_dmWritePre h g x i m, ?pre, loadDag_after (hset _ (memoryOnly_write16 s _ _)) grp k j _⟩⟩
    case post =>
      rw [regZx_kindReg, ← State.postAddress_settled h, ← State.dagNext_settled h, ← State.modifier_settled h,
        ← State.index_settled h]
      exact if_pos hallowed
    case pre =>
      rw [regZx_kindReg, ← State.preAddress_settled h, ← State.modifier_settled h]
      refine (if_pos hallowed).trans ?_
      rw [State.index_settled h, State.modifier_settled h]
  next hno =>
    have hbarred : ¬dagStoreAllowed g grp k j i = true := fun hb => hno ((dagStoreAllowed_iff g grp k j i).mp hb)
    exact ⟨if_neg hbarred, if_neg hbarred⟩

/-- Settles O44. -/
theorem storedWordsComeBack : Obligations.StoredWordsComeBack := by
  refine ⟨fun s t g r i m h hwf hwidth he => ?back, fetchWord_maySee, fun s t g r i m v h hwf he b x hb => ?see,
    fun s t he k a ha => ?flush⟩
  case back =>
    obtain rfl := Host.Outcome.next.inj ((exec_pmWritePost h g r i m).symm.trans he)
    rw [setIndex_of_memoryOnly h (memoryOnly_write24 s _ _), ← content_self h]
    have hput : s.write24 (busAddress s g (idx s g i)) (content s s r ++ s.px)
        = s.put24 (busAddress s g (idx s g i)) (content s s r ++ s.px) := by
      simp only [State.write24, hwidth]
    generalize busAddress s g (idx s g i) = a at hwidth hput ⊢
    generalize content s s r = c at hput ⊢
    have hloc : (s.mem.writeLoc a (c ++ s.px)).readLoc a = c ++ s.px := Memory.readLoc_writeLoc_eq hwf a _
    rw [hput]
    obtain ⟨-, h24⟩ := readsDeliverTheLocation
      { withIndex s g i (nextIndex s g i (mdf s g m)) with mem := s.mem.writeLoc a (c ++ s.px), stale := _ } a
    obtain ⟨hread16, hread24⟩ := h24 hwidth
    refine ⟨hread24.trans hloc, hread16.trans ?_, fun b hb => ?_⟩
    · show ((s.mem.writeLoc a (c ++ s.px)).readLoc a).extractLsb' 8 16 = c
      rw [hloc, field_append_left _ _ _ _ (by omega), Nat.sub_self, field_whole]
    · have hm : (s.mem.writeLoc a (c ++ s.px)).readLoc b = s.mem.readLoc b := Memory.readLoc_writeLoc_ne _ _ hb
      exact ⟨read24_congr rfl rfl hm, read16_congr rfl rfl hm⟩
  case see =>
    rcases he with he | he | he
    · obtain rfl := Host.Outcome.next.inj ((exec_pmWritePost h g r i m).symm.trans he)
      exact maySee_write24 hb _ _ x
    · obtain rfl := Host.Outcome.next.inj ((exec_dmWritePost h g r i m).symm.trans he)
      exact maySee_write16 hb _ _ x
    · obtain rfl := Host.Outcome.next.inj ((exec_storeImm24 h g i m v).symm.trans he)
      exact maySee_write24 hb _ _ x
  case flush =>
    obtain rfl : s.flushCache = t := Host.Outcome.next.inj he
    exact fetch_after_flush s k a ha

end Sys2Proof.Claims
end

section
/-! SUPPORT, O29 to O33. Multifunction instructions (spec/43_multifunction.md R340 to R350): a compute or a shift changes data
registers and flags only (`ComputesOnly`), a move beside it is the move alone but where both write (`merged_loadBeside`), and
the read, store and move forms of both. -/

namespace Sys2Proof.Machine

open Sys2Proof.Claims

/-! ## What a compute or a shift leaves alone -/

/-- The step from `s` to `u` changes the flags, AF, SE, SB and the data registers `dests` of the selected bank at most. -/
structure ComputesOnly (dests : List Dreg) (s u : State) : Prop where
  frame : u = { s with data := u.data, astat := u.astat }
  other : otherBank u = otherBank s
  kept : ∀ r, r ∉ dests → (bank u).get r = (bank s).get r

theorem ComputesOnly.settled {dests : List Dreg} {s u : State} (hc : ComputesOnly dests s u) (h : Settled s) : Settled u := by
  rw [hc.frame]
  exact h

theorem withAcc_get (x : DataRegs) (z : ResultReg) (v : BitVec 40) {r : Dreg} (hr : r ∉ accDregs z) :
    (withAcc x z v).get r = x.get r := by
  cases z <;> cases r <;> first | rfl | exact absurd (by decide) hr

theorem withAcc_exponents (x : DataRegs) (z : ResultReg) (v : BitVec 40) :
    (withAcc x z v).af = x.af ∧ (withAcc x z v).se = x.se ∧ (withAcc x z v).sb = x.sb := by
  cases z <;> exact ⟨rfl, rfl, rfl⟩

theorem computesOnly_of_accDone {z : ResultReg} {v : BitVec 40} {s u : State} (hd : AccDone true z v s u) :
    ComputesOnly (accDregs z) s u := by
  obtain ⟨hbank, hother, -, hframe⟩ := hd
  refine ⟨hframe, hother, fun r hr => ?_⟩
  rw [hbank]
  exact withAcc_get (bank s) z v hr

section SettledState

variable {s : State} (h : Settled s)
include h

theorem State.computesOnly_compute (z : ResultReg) (f : Compute) :
    ComputesOnly (Compute.dests z f) s (s.compute true z f) := by
  rcases f with ⟨f, y, x⟩ | (yx | ⟨op, fmt, y, x⟩)
  · rw [compute, if_pos rfl]
    refine ⟨s.aluOp_frame _ f _ _, otherBank_aluOp h _ f _ _, fun r hr => ?_⟩
    rw [bank_aluOp h]
    cases z
    · have hne : r ≠ .ar := fun he => hr (he ▸ List.mem_singleton.mpr rfl)
      exact DataRegs.get_set_ne (bank s) (d := .ar) _ hne
    · cases r <;> rfl
  · exact ⟨rfl, rfl, fun _ _ => rfl⟩
  · exact computesOnly_of_accDone (accDone_macOp h true z op fmt (s.macX x) (s.macY y))

/-- A compute leaves SE and SB alone. -/
theorem State.bank_compute_exponents (z : ResultReg) (f : Compute) :
    (bank (s.compute true z f)).se = (bank s).se ∧ (bank (s.compute true z f)).sb = (bank s).sb := by
  rcases f with ⟨f, y, x⟩ | (yx | ⟨op, fmt, y, x⟩)
  · rw [compute, if_pos rfl, bank_aluOp h]
    cases z <;> exact ⟨rfl, rfl⟩
  · exact ⟨rfl, rfl⟩
  · obtain ⟨hbank, -⟩ := accDone_macOp h true z op fmt (s.macX x) (s.macY y)
    obtain ⟨-, hse, hsb⟩ := withAcc_exponents (bank s) z (macValue op fmt z (s.macX x) (s.macY y) s)
    rw [compute, hbank]
    exact ⟨hse, hsb⟩

theorem State.computesOnly_setSe (a : BitVec 9) (e : Int) : ComputesOnly [] s (({ s with astat := a }).setSe e) := by
  refine ⟨rfl, otherBank_updData_astat h a _ _, fun r _ => ?_⟩
  rw [setSe, bank_updData_astat h]
  cases r <;> rfl

theorem State.computesOnly_shiftOp (f : ShiftFn) (x : Word) : ComputesOnly (ShiftFn.dests f) s (s.shiftOp f x) := by
  cases f
  case expHi => exact computesOnly_setSe h _ _
  case expHix =>
    simp only [shiftOp, expHix]
    split
    · exact computesOnly_setSe h _ 1
    · exact computesOnly_setSe h _ _
  case expLo =>
    simp only [shiftOp, expLo]
    split
    · exact computesOnly_setSe h s.astat _
    · exact ⟨rfl, rfl, fun _ _ => rfl⟩
  case expAdj =>
    refine ⟨s.shiftOp_frame .expAdj x, otherBank_expAdj h x, fun r _ => ?_⟩
    simp only [shiftOp, expAdj]
    split
    · rw [bank_updData h]
      cases r <;> rfl
    · rfl
  all_goals exact computesOnly_of_accDone (z := .feedback) (accDone_shiftOp h rfl)

end SettledState

/-! ## A move beside a compute (R350) -/

theorem DataRegs.load_get_congr {x y : DataRegs} {r : Dreg} (hr : x.get r = y.get r) (d : Dreg) (v : Word) :
    (x.load d v).get r = (y.load d v).get r := by
  rw [load_get, load_get, hr]

theorem mem_loadDests_iff (d r : Dreg) :
    r ∈ Dreg.loadDests d ↔ r = d ∨ (d = .mr1 ∧ r = .mr2) ∨ (d = .sr1 ∧ r = .sr2) := by
  cases d <;> simp [Dreg.loadDests]

theorem DataRegs.load_get_of_not_mem (x : DataRegs) {d r : Dreg} (v : Word) (hr : r ∉ Dreg.loadDests d) :
    (x.load d v).get r = x.get r := by
  rw [mem_loadDests_iff, not_or] at hr
  rw [load_get, if_neg hr.1, if_neg hr.2]

theorem settled_clash {s : State} (h : Settled s) (l : List Dreg) : Settled (s.clash l) := by
  rw [s.clash_frame l]
  exact h

/-- Free values in the registers `l` alone. -/
theorem State.bank_clash {s : State} (h : Settled s) (l : List Dreg) :
    (∀ r, r ∉ l → (bank (s.clash l)).get r = (bank s).get r) ∧
    (bank (s.clash l)).af = (bank s).af ∧ (bank (s.clash l)).se = (bank s).se ∧ (bank (s.clash l)).sb = (bank s).sb ∧
    otherBank (s.clash l) = otherBank s := by
  induction l generalizing s with
  | nil => exact ⟨fun _ _ => rfl, rfl, rfl, rfl, rfl⟩
  | cons d ds ih =>
    obtain ⟨hget, haf, hse, hsb, hother⟩ := ih (settled_updData h .moveDest fun x => x.set d (s.free 16 (.clash d)))
    rw [bank_updData h] at hget haf hse hsb
    rw [otherBank_updData h] at hother
    refine ⟨fun r hr => ?_, haf.trans (DataRegs.set_af _ _ _), hse.trans (DataRegs.set_se _ _ _),
      hsb.trans (DataRegs.set_sb _ _ _), hother⟩
    rw [List.mem_cons, not_or] at hr
    exact (hget r hr.2).trans (DataRegs.get_set_ne _ _ hr.1)

/-- The move part of a multifunction instruction, register by register. -/
theorem State.bank_loadBeside {s : State} (h : Settled s) (dests : List Dreg) (d : Dreg) (v : Word) :
    (∀ r, r ∉ dests → (bank (s.loadBeside dests d v)).get r = ((bank s).load d v).get r) ∧
    (∀ r, r ∉ Dreg.loadDests d → (bank (s.loadBeside dests d v)).get r = (bank s).get r) ∧
    (bank (s.loadBeside dests d v)).af = (bank s).af ∧ (bank (s.loadBeside dests d v)).se = (bank s).se ∧
    (bank (s.loadBeside dests d v)).sb = (bank s).sb ∧ otherBank (s.loadBeside dests d v) = otherBank s := by
  obtain ⟨hget, haf, hse, hsb, hother⟩ :=
    bank_clash (settled_updData h .moveDest fun x => x.load d v) ((Dreg.loadDests d).filter dests.contains)
  rw [bank_updData h] at hget haf hse hsb
  rw [otherBank_updData h] at hother
  refine ⟨fun r hr => hget r fun hm => hr ?_, fun r hr => (hget r fun hm => hr (List.mem_filter.mp hm).1).trans
    (DataRegs.load_get_of_not_mem _ v hr), haf.trans (DataRegs.load_af _ _ _), hse.trans (DataRegs.load_se _ _ _),
    hsb.trans (DataRegs.load_sb _ _ _), hother⟩
  exact List.contains_iff_mem.mp (List.mem_filter.mp hm).2

/-- A move beside a compute is merged with it: `u` is the compute alone, `u'` is `u` and `w` is `s` but for registers outside
the data registers. -/
theorem State.merged_loadBeside {dests : List Dreg} {s u u' w : State} (hc : ComputesOnly dests s u) (hu : Settled u')
    (hdata : u'.data = u.data ∧ u'.mstat = u.mstat ∧ u'.astat = u.astat) (hw : Settled w)
    (hwdata : w.data = s.data ∧ w.mstat = s.mstat) (d : Dreg) (v : Word) :
    Merged dests (Dreg.loadDests d) s u (w.loadDreg .moveDest d v) (u'.loadBeside dests d v) := by
  obtain ⟨hd, hm, ha⟩ := hdata
  obtain ⟨hwd, hwm⟩ := hwdata
  have hbank : bank u' = bank u := by rw [bank, bank, hd, hm]
  have hother : otherBank u' = otherBank u := by rw [otherBank, otherBank, hd, hm]
  have hwbank : bank w = bank s := by rw [bank, bank, hwd, hwm]
  obtain ⟨hload, hkeep, haf, hse, hsb, hoth⟩ := bank_loadBeside hu dests d v
  rw [hbank] at hload hkeep haf hse hsb
  refine ⟨?_, fun r hr => ?_, hkeep, haf, hse, hsb, hoth.trans (hother.trans hc.other)⟩
  · rw [u'.loadBeside_frame dests d v]
    exact ha
  · rw [hload r hr, bank_loadDreg hw, hwbank]
    exact DataRegs.load_get_congr (hc.kept r hr) d v

/-! ## The three forms -/

theorem settled_postModify {t : State} (h : Settled t) (s : State) (g : Dag) (i m : Slot) : Settled (t.postModify s g i m) :=
  (t.updDag_windows g .update _).trans h

/-- A compute or shift with a memory read. -/
theorem State.readBeside {dests : List Dreg} {s u : State} (h : Settled s) (hc : ComputesOnly dests s u) (g : Dag) (d : Dreg)
    (i m : Slot) :
    let w := (s.postModify s g i m).loadDreg .moveDest d (s.read16 (s.postAddress g i))
    let t := (u.postModify s g i m).loadBeside dests d (s.read16 (s.postAddress g i))
    Merged dests (Dreg.loadDests d) s u w t ∧ t.dags = w.dags ∧
      t = { s with data := t.data, dags := t.dags, astat := t.astat } := by
  intro w t
  have hframe : t = { u.postModify s g i m with data := t.data } := loadBeside_frame _ dests d _
  refine ⟨merged_loadBeside hc (settled_postModify (hc.settled h) s g i m) ⟨rfl, rfl, rfl⟩ (settled_postModify h s g i m)
    ⟨rfl, rfl⟩ d _, ?_, ?_⟩
  · rw [hframe, hc.frame]
    rfl
  · rw [hframe, hc.frame]
    rfl

/-- A compute or shift with a memory write: `c` is the compute or shift of the state after the store. -/
theorem State.writeBeside {dests : List Dreg} {s u c : State} (h : Settled s) (hc : ComputesOnly dests s u) (g : Dag) (d : Dreg)
    (i m : Slot) (hcu : c = { u with mem := (s.write16 (s.postAddress g i) (s.moveDatum dests d)).mem
                                     stale := (s.write16 (s.postAddress g i) (s.moveDatum dests d)).stale }) :
    let w := (s.write16 (s.postAddress g i) (s.regZx (.g0 d))).postModify s g i m
    let t := c.postModify s g i m
    t.data = u.data ∧ t.astat = u.astat ∧ t.dags = w.dags ∧
      (¬(d = .sr2 ∧ .sr2 ∈ dests) → t.mem = w.mem ∧ t.stale = w.stale) ∧
      OnlyAt (busAddress s g (idx s g i)) s t ∧
      t = { s with data := t.data, dags := t.dags, astat := t.astat, mem := t.mem, stale := t.stale } := by
  subst hcu
  refine ⟨rfl, rfl, ?dags, fun hno => ?mem, fun key hk => ?only, ?frame⟩
  case dags =>
    rw [hc.frame, s.write16_frame (s.postAddress g i) (s.regZx (.g0 d))]
    rfl
  case mem =>
    have hv : s.moveDatum dests d = s.regZx (.g0 d) := by
      rw [moveDatum, if_neg fun hcond => hno ⟨hcond.1, List.contains_iff_mem.mp hcond.2⟩]
      rfl
    rw [hv]
    exact ⟨rfl, rfl⟩
  case only =>
    rw [← postAddress_settled h] at hk
    exact s.readByte_write16_ne _ _ hk
  case frame =>
    rw [hc.frame]
    rfl

/-- A compute or shift with a register move. -/
theorem State.moveBeside {dests : List Dreg} {s u : State} (h : Settled s) (hc : ComputesOnly dests s u) (d src : Dreg) :
    let w := s.loadDreg .moveDest d (s.regSx (.g0 src))
    let t := u.loadBeside dests d (s.moveDatum dests src)
    t = { s with data := t.data, astat := t.astat } ∧
    if src = .sr2 ∧ .sr2 ∈ dests then t.astat = u.astat ∧ otherBank t = otherBank s ∧
        (∀ r, r ∉ Dreg.loadDests d → (bank t).get r = (bank u).get r) ∧
        (bank t).af = (bank u).af ∧ (bank t).se = (bank u).se ∧ (bank t).sb = (bank u).sb
      else Merged dests (Dreg.loadDests d) s u w t := by
  intro w t
  have hu := hc.settled h
  have hframe : t = { u with data := t.data } := u.loadBeside_frame dests d _
  refine ⟨?_, ?_⟩
  · rw [hframe, hc.frame]
  · split
    next hfree =>
      obtain ⟨-, hkeep, haf, hse, hsb, hother⟩ := bank_loadBeside hu dests d (s.moveDatum dests src)
      exact ⟨by rw [hframe], hother.trans hc.other, hkeep, haf, hse, hsb⟩
    next hno =>
      have hv : s.moveDatum dests src = s.regSx (.g0 src) := by
        rw [moveDatum, if_neg fun hcond => hno ⟨hcond.1, List.contains_iff_mem.mp hcond.2⟩]
        rfl
      show Merged dests _ s u w (u.loadBeside dests d (s.moveDatum dests src))
      rw [hv]
      exact merged_loadBeside hc hu ⟨rfl, rfl, rfl⟩ h ⟨rfl, rfl⟩ d _

/-! ## Dual reads (R342, R343) -/

theorem dagOf_withIndex_ne (s : State) {g g' : Dag} (hg : g' ≠ g) (i : Slot) (v : Word) :
    dagOf (withIndex s g i v) g' = dagOf s g' := by
  simp only [dagOf, withIndex, Banked.get_set_same, DagBank.get_set_ne _ _ hg]

theorem DmDest.dreg_plain (dd : DmDest) : DmDest.dreg dd ≠ .mr1 ∧ DmDest.dreg dd ≠ .sr1 := by cases dd <;> decide

theorem PmDest.dreg_plain (pd : PmDest) : PmDest.dreg pd ≠ .mr1 ∧ PmDest.dreg pd ≠ .sr1 := by cases pd <;> decide

theorem DmDest.dreg_ne_pm (dd : DmDest) (pd : PmDest) : DmDest.dreg dd ≠ PmDest.dreg pd := by
  cases dd <;> cases pd <;> decide

theorem DataRegs.load_get_plain (x : DataRegs) {d : Dreg} (hd : d ≠ .mr1 ∧ d ≠ .sr1) (v : Word) {e : Dreg} (he : e ≠ d) :
    (x.load d v).get e = x.get e := by
  obtain ⟨hmr, hsr⟩ := hd
  rw [load_get, if_neg he, if_neg]
  rintro (⟨hd, -⟩ | ⟨hd, -⟩)
  · exact hmr hd
  · exact hsr hd

/-- The two loads of a dual read, beside a write of PX. -/
theorem State.bank_twoLoads {t : State} (h : Settled t) (p : BitVec 8) (d e : Dreg) (v w : Word) :
    bank ((({ t with px := p } : State).loadDreg .moveDest d v).loadDreg .pmDest e w) = ((bank t).load d v).load e w := by
  have hpx : Settled { t with px := p } := h
  have hload : Settled (({ t with px := p } : State).loadDreg .moveDest d v) := settled_updData hpx _ _
  rw [bank_loadDreg hload, bank_loadDreg hpx]
  rfl

theorem State.otherBank_twoLoads {t : State} (h : Settled t) (p : BitVec 8) (d e : Dreg) (v w : Word) :
    otherBank ((({ t with px := p } : State).loadDreg .moveDest d v).loadDreg .pmDest e w) = otherBank t := by
  have hpx : Settled { t with px := p } := h
  have hload : Settled (({ t with px := p } : State).loadDreg .moveDest d v) := settled_updData hpx _ _
  exact (otherBank_updData hload _ _).trans (otherBank_updData hpx _ _)

theorem State.loaded_get {s : State} (h : Settled s) (role : Role) (d : Dreg) (v : Word) :
    (bank (s.loadDreg role d v)).get d = v := by
  rw [bank_loadDreg h, DataRegs.load_get_same]

theorem State.dualMove_frame {dests : List Dreg} {s u : State} (hc : ComputesOnly dests s u) (pd : PmDest) (dd : DmDest)
    (pmi pmm dmi dmm : Slot) :
    let t := u.dualMove s pd dd pmi pmm dmi dmm
    t = { s with data := t.data, dags := t.dags, astat := t.astat, px := t.px } := by
  intro t
  have hframe : t = { u with data := t.data, dags := t.dags, px := t.px } := rfl
  rw [hframe, hc.frame]

/-- `s` with the index registers of both DAGs updated, each by its own registers. -/
def withBothIndexes (s : State) (pmi pmm dmi dmm : Slot) : State :=
  withIndex (withIndex s .dag1 dmi (nextIndex s .dag1 dmi (mdf s .dag1 dmm))) .dag2 pmi
    (nextIndex s .dag2 pmi (mdf s .dag2 pmm))

theorem dagOf_congr {s t : State} (hd : t.dags = s.dags) (hm : t.mstat = s.mstat) {g : Dag} : dagOf t g = dagOf s g := by
  rw [dagOf, hd, hm]
  rfl

theorem dagOf_withBothIndexes_dag1 (s : State) (pmi pmm dmi dmm : Slot) :
    dagOf (withBothIndexes s pmi pmm dmi dmm) .dag1
      = dagOf (withIndex s .dag1 dmi (nextIndex s .dag1 dmi (mdf s .dag1 dmm))) .dag1 :=
  dagOf_withIndex_ne _ (by decide) _ _

theorem dagOf_withBothIndexes_dag2 (s : State) (pmi pmm dmi dmm : Slot) :
    dagOf (withBothIndexes s pmi pmm dmi dmm) .dag2
      = dagOf (withIndex s .dag2 pmi (nextIndex s .dag2 pmi (mdf s .dag2 pmm))) .dag2 := by
  rw [withBothIndexes, dagOf_withIndex, dagOf_withIndex_ne _ (by decide), ← dagOf_withIndex]

section DualMove

variable {dests : List Dreg} {s u : State} (h : Settled s) (hc : ComputesOnly dests s u) (pd : PmDest) (dd : DmDest)
  (pmi pmm dmi dmm : Slot)
include h hc

/-- Both index registers, each by its own registers of the state before the instruction. -/
theorem State.dags_dualMove : (u.dualMove s pd dd pmi pmm dmi dmm).dags
    = (withBothIndexes s pmi pmm dmi dmm).dags := by
  show ((u.postModify s .dag1 dmi dmm).postModify s .dag2 pmi pmm).dags = _
  rw [postModify, setIndex_settled (settled_postModify (hc.settled h) s .dag1 dmi dmm), postModify,
    setIndex_settled (hc.settled h), dagNext_settled h, dagNext_settled h, modifier_settled h, modifier_settled h, hc.frame]
  rfl

theorem State.bank_dualMove : bank (u.dualMove s pd dd pmi pmm dmi dmm)
    = ((bank u).load (DmDest.dreg dd) (s.read16 (s.postAddress .dag1 dmi))).load (PmDest.dreg pd)
        ((s.read24 (s.postAddress .dag2 pmi)).extractLsb' 8 16) :=
  bank_twoLoads (settled_postModify (settled_postModify (hc.settled h) s .dag1 dmi dmm) s .dag2 pmi pmm) _ _ _ _ _

theorem State.otherBank_dualMove : otherBank (u.dualMove s pd dd pmi pmm dmi dmm) = otherBank s :=
  (otherBank_twoLoads (settled_postModify (settled_postModify (hc.settled h) s .dag1 dmi dmm) s .dag2 pmi pmm) _ _ _ _ _).trans
    hc.other

end DualMove

/-! ## Computing beside a store -/

theorem State.compute_withMem (s : State) (m : Memory) (l : List StaleWord) (z : ResultReg) (f : Compute) :
    ({ s with mem := m, stale := l } : State).compute true z f = { s.compute true z f with mem := m, stale := l } := by
  rcases f with ⟨f, y, x⟩ | (yx | ⟨op, fmt, y, x⟩) <;> rfl

theorem State.shiftOp_withMem (s : State) (m : Memory) (l : List StaleWord) (f : ShiftFn) (x : Word) :
    ({ s with mem := m, stale := l } : State).shiftOp f x = { s.shiftOp f x with mem := m, stale := l } := by
  cases f
  case expHix =>
    by_cases hc : (s.astatEff .exponentOverflow).getLsbD 2 = true
    · exact (if_pos hc).trans (by rw [shiftOp, expHix, if_pos hc]; rfl)
    · exact (if_neg hc).trans (by rw [shiftOp, expHix, if_neg hc]; rfl)
  case expLo =>
    by_cases hc : s.shiftCode = -15
    · exact (if_pos hc).trans (by rw [shiftOp, expLo, if_pos hc]; rfl)
    · exact (if_neg hc).trans (by rw [shiftOp, expLo, if_neg hc])
  case expAdj =>
    by_cases hc : exponent x > ((s.dataAt .code).sb.extractLsb' 0 5).toInt
    · exact (if_pos hc).trans (by rw [shiftOp, expAdj, if_pos hc]; rfl)
    · exact (if_neg hc).trans (by rw [shiftOp, expAdj, if_neg hc])
  all_goals rfl

/-! ## The instructions -/

theorem exec_computeAlone (z : ResultReg) (f : Compute) (s : State) : exec (computeAlone z f) s = .next (s.compute true z f) := by
  rcases f with ⟨f, y, x⟩ | (yx | ⟨op, fmt, y, x⟩)
  · exact exec_aluYop f z y x .always s
  · rfl
  · exact exec_macYop op fmt z y x .always s

theorem exec_flagsAlone (z : ResultReg) (f : Compute) (s : State) : exec (flagsAlone z f) s = .next (s.compute false z f) := by
  rcases f with ⟨f, y, x⟩ | (yx | ⟨op, fmt, y, x⟩) <;> rfl

theorem State.compute_flags_data (s : State) (z : ResultReg) (f : Compute) :
    (s.compute false z f).data = s.data ∧ s.compute false z f = { s with data := (s.compute false z f).data
                                                                         astat := (s.compute false z f).astat } := by
  rcases f with ⟨f, y, x⟩ | (yx | ⟨op, fmt, y, x⟩) <;> exact ⟨rfl, rfl⟩

theorem exec_shiftAlone (f : ShiftFn) (x : Dreg) (s : State) :
    exec (Instr.condShift f x .always) s = .next (s.shiftOp f (s.dreg .x x)) := by
  cases f <;> rfl

end Sys2Proof.Machine

namespace Sys2Proof.Claims

open Sys2Proof.Machine

/-- Settles O29: the two loads write registers of their own, and each index register is updated by its own DAG. -/
theorem computeWithDualRead : Obligations.ComputeWithDualRead := by
  intro f pd dd pmi pmm dmi dmm s h
  have hc := State.computesOnly_compute h .result f
  have hbank := State.bank_dualMove h hc pd dd pmi pmm dmi dmm
  have hdags := State.dags_dualMove h hc pd dd pmi pmm dmi dmm
  obtain ⟨hse, hsb⟩ := State.bank_compute_exponents h .result f
  have hdm : ∀ g i m, Settled (s.postModify s g i m) := settled_postModify h s
  have hpx : ∀ g i m p, Settled { s.postModify s g i m with px := p } := fun g i m _ => hdm g i m
  have hmstat : ((s.compute true .result f).dualMove s pd dd pmi pmm dmi dmm).mstat
      = (withBothIndexes s pmi pmm dmi dmm).mstat := by
    rw [State.dualMove_frame hc]
    rfl
  refine ⟨_, _, _, _, exec_computeAlone .result f s, rfl, rfl, rfl, ?dm, ?pm, fun r hdd hpd => ?rest, ?af, ?se, ?sb,
    State.otherBank_dualMove h hc pd dd pmi pmm dmi dmm, rfl, rfl, ?dag1, ?dag2, ?dagOther, ?frame, fun _ => rfl⟩
  case dm =>
    rw [hbank, DataRegs.load_get_plain _ (PmDest.dreg_plain pd) _ (DmDest.dreg_ne_pm dd pd), DataRegs.load_get_same]
    exact (State.loaded_get (hdm .dag1 dmi dmm) .moveDest _ _).symm
  case pm =>
    rw [hbank, DataRegs.load_get_same]
    exact (State.loaded_get (hpx .dag2 pmi pmm _) .moveDest _ _).symm
  case rest =>
    rw [hbank, DataRegs.load_get_plain _ (PmDest.dreg_plain pd) _ hpd, DataRegs.load_get_plain _ (DmDest.dreg_plain dd) _ hdd]
  case af => rw [hbank, DataRegs.load_af, DataRegs.load_af]
  case se => rw [hbank, DataRegs.load_se, DataRegs.load_se, hse]
  case sb => rw [hbank, DataRegs.load_sb, DataRegs.load_sb, hsb]
  case dag1 =>
    rw [dagOf_congr hdags hmstat, dagOf_withBothIndexes_dag1, ← State.postModify_settled h]
    rfl
  case dag2 =>
    rw [dagOf_congr hdags hmstat, dagOf_withBothIndexes_dag2, ← State.postModify_settled h]
    rfl
  case dagOther =>
    rw [hdags]
    exact (Banked.get_set_other _ _ _).trans (Banked.get_set_other _ _ _)
  case frame => exact State.dualMove_frame hc pd dd pmi pmm dmi dmm

/-- Settles O30. -/
theorem computeWithMemoryRead : Obligations.ComputeWithMemoryRead := fun g z f d i m s h =>
  ⟨_, _, _, exec_computeAlone z f s, rfl, rfl, State.readBeside h (State.computesOnly_compute h z f) g d i m⟩

/-- Settles O31. -/
theorem computeWithMemoryWrite : Obligations.ComputeWithMemoryWrite := by
  intro g z f d i m s h
  refine ⟨_, _, _, exec_computeAlone z f s, rfl, rfl, State.writeBeside h (State.computesOnly_compute h z f) g d i m ?_⟩
  rw [← State.compute_withMem, ← State.write16_frame]

/-- Settles O32. -/
theorem computeWithRegisterMove : Obligations.ComputeWithRegisterMove := by
  intro z f d src s h
  by_cases har : d = .ar ∧ src = .ar
  · obtain ⟨hdata, hframe⟩ := s.compute_flags_data z f
    refine ⟨_, _, _, _, exec_computeAlone z f s, exec_flagsAlone z f s, rfl, if_pos har, hframe, ?_⟩
    rw [if_pos har]
    exact ⟨rfl, hdata⟩
  · obtain ⟨hframe, hmerged⟩ := State.moveBeside h (State.computesOnly_compute h z f) d src
    refine ⟨_, _, _, _, exec_computeAlone z f s, exec_flagsAlone z f s, rfl, if_neg har, hframe, ?_⟩
    rw [if_neg har]
    exact hmerged

/-- Settles O33. -/
theorem shiftWithMove : Obligations.ShiftWithMove := by
  intro g f x xr d src i m s h
  have hx := State.computesOnly_shiftOp h f (s.shiftX x)
  refine ⟨⟨_, _, _, exec_shiftAlone f _ s, rfl, rfl, State.readBeside h hx g d i m⟩,
    ⟨_, _, _, exec_shiftAlone f _ s, rfl, rfl, State.writeBeside h hx g d i m ?_⟩,
    ⟨_, _, _, exec_shiftAlone f xr s, rfl, rfl, State.moveBeside h (State.computesOnly_shiftOp h f _) d src⟩⟩
  rw [← State.shiftOp_withMem, ← State.write16_frame]

end Sys2Proof.Claims
end

section
/-! SUPPORT, O47 to O53. Branches and the stacks (spec/45_program_flow.md R440, R444, R450 to R465): each stack operation of the
model as the statements name it, branches, calls and returns under a condition, and a word of stack control field by field. -/

namespace Sys2Proof.Machine

open Sys2Proof.Claims

/-! ## The stack operations (R444) -/

theorem putBit_three (v : Word) : putBit v 3 true = v ||| 8 := rfl

theorem State.stsPush_eq (s : State) : s.stsPush = pushedSts s := rfl

theorem State.stsDrop_eq (s : State) : s.stsDrop = poppedSts s := by
  cases hs : s.statusStack with
  | nil =>
    simp only [stsDrop, poppedSts, hs, overflow]
    congr 1
  | cons e rest => simp only [stsDrop, poppedSts, hs]

theorem State.lpPush_eq (s : State) (e : LoopEntry) : s.lpPush e = pushedLoop e s := rfl

theorem State.branch_eq (s : State) (a : Addr) (db : Bool) : s.branch a db = Branched a db s := rfl

theorem State.openSstat_all (t s : State) : t.openSstat s 0xFF#8 = ReadBack s 0xFF t := rfl

theorem State.openSstat_eq (t s : State) (bits : BitVec 8) : t.openSstat s bits = ReadBack s bits t := rfl

/-- The level request where no window of ICNTL is open (R512). -/
theorem State.levelRequest_eq {s : State} (hi : s.windows.icntl = .closed) (u : IcntlUse) (depth mark : Nat) :
    s.levelRequest u depth mark
      = { s with irptl := if depth = mark ∧ s.icntl.getLsbD 10 = true then s.irptl ||| 8 else s.irptl } := by
  have hsee : s.icntlEff u = s.icntl := by
    rw [icntlEff, hi]
    rfl
  unfold levelRequest
  rw [hsee]
  by_cases hd : depth = mark
  · by_cases hk : s.icntl.getLsbD 10 = true
    · rw [if_pos hd, if_pos hk, if_pos ⟨hd, hk⟩]
      rfl
    · rw [if_pos hd, if_neg hk, if_neg fun hc => hk hc.2]
  · rw [if_neg hd, if_neg fun hc => hd hc.1]

theorem State.pcPush_eq {s : State} (hi : s.windows.icntl = .closed) (v : Addr) : s.pcPush v = pushedPc v s := by
  unfold pcPush pushedPc
  split
  next => rfl
  next =>
    rw [levelRequest_eq (s := { s with pcStack := v :: s.pcStack }) hi]
    simp only [Nat.reduceEqDiff]

theorem State.pcDrop_eq {s : State} (hi : s.windows.icntl = .closed) : s.pcDrop = poppedPc s := by
  cases hs : s.pcStack with
  | nil =>
    simp only [pcDrop, poppedPc, hs, overflow]
    congr 1
  | cons v rest =>
    simp only [pcDrop, poppedPc, hs]
    exact levelRequest_eq (s := { s with pcStack := rest }) hi .popLevel rest.length 3

theorem Settled.icntl {s : State} (h : Settled s) : s.windows.icntl = .closed := by
  rw [show s.windows = Windows.closed from h]
  rfl

/-- The value that a pop of the PC stack brings is its top (V2 where it is empty). -/
theorem State.pcTop_of_cons {s : State} {b : Addr} {rest : List Addr} (hs : s.pcStack = b :: rest) : s.pcTop = b := by
  rw [pcTop, hs]

theorem State.stsTop_of_cons {s : State} {e : StatusEntry} {rest : List StatusEntry} (hs : s.statusStack = e :: rest) :
    s.stsTop = e := by
  rw [stsTop, hs]

theorem State.lpTop_of_cons {s : State} {e : LoopEntry} {rest : List LoopEntry} (hs : s.loopStack = e :: rest) :
    s.lpTop = e := by
  rw [lpTop, hs]

/-! ## States with no window open but those of CNTR and SSTAT -/

/-- No window is open but, at most, those of CNTR and SSTAT: the uses of the stack operations see the architectural
values. -/
def StackSettled (s : State) : Prop :=
  s.windows = { Windows.closed with cntr := s.windows.cntr, sstat := s.windows.sstat }

theorem Settled.stackSettled {s : State} (h : Settled s) : StackSettled s := by
  rw [StackSettled, show s.windows = Windows.closed from h]

theorem StackSettled.icntl {s : State} (h : StackSettled s) : s.windows.icntl = .closed := by
  rw [show s.windows = _ from h]
  rfl

/-- A status entry restored (R459, R462). -/
theorem State.popStatus_eq {s : State} (h : StackSettled s) : s.popStatus = restored s.stsTop (poppedSts s) := by
  have hw : (poppedSts s).windows = s.windows := by
    unfold poppedSts
    cases s.statusStack <;> rfl
  rw [popStatus, s.stsDrop_eq]
  simp only [writeMstat, restored, mstatWindows, hw]
  rw [show s.windows = _ from h]
  rfl

/-! ## What each stack operation leaves alone -/

/-- `t` differs from `s` in the stacks, STKOVERFLOW and the requests at most. -/
def StacksOnly (s t : State) : Prop :=
  t = { s with pcStack := t.pcStack, loopStack := t.loopStack, statusStack := t.statusStack, sov := t.sov, irptl := t.irptl }

theorem StacksOnly.refl (s : State) : StacksOnly s s := rfl

theorem StacksOnly.trans {s t u : State} (h : StacksOnly s t) (k : StacksOnly t u) : StacksOnly s u := by
  unfold StacksOnly at k ⊢
  rw [k, show t = _ from h]

theorem stacksOnly_pushedPc (v : Addr) (s : State) : StacksOnly s (pushedPc v s) := by
  unfold StacksOnly pushedPc
  split <;> rfl

theorem stacksOnly_pushedLoop (e : LoopEntry) (s : State) : StacksOnly s (pushedLoop e s) := by
  unfold StacksOnly pushedLoop
  split <;> rfl

theorem stacksOnly_pushedSts (s : State) : StacksOnly s (pushedSts s) := by
  unfold StacksOnly pushedSts
  split <;> rfl

theorem stacksOnly_poppedPc (s : State) : StacksOnly s (poppedPc s) := by
  unfold StacksOnly poppedPc
  split <;> rfl

theorem stacksOnly_poppedSts (s : State) : StacksOnly s (poppedSts s) := by
  unfold StacksOnly poppedSts
  split <;> rfl

theorem StacksOnly.windows {s t : State} (h : StacksOnly s t) : t.windows = s.windows := by rw [show t = _ from h]
theorem StacksOnly.tick {s t : State} (h : StacksOnly s t) : t.tick = s.tick := by rw [show t = _ from h]

theorem StacksOnly.settled {s t : State} (h : StacksOnly s t) (hs : Settled s) : Settled t := h.windows.trans hs

theorem StacksOnly.stackSettled {s t : State} (h : StacksOnly s t) (hs : StackSettled s) : StackSettled t := by
  unfold StackSettled at hs ⊢
  rw [StacksOnly.windows h]
  exact hs

theorem pushedPc_otherStacks (v : Addr) (s : State) :
    (pushedPc v s).loopStack = s.loopStack ∧ (pushedPc v s).statusStack = s.statusStack := by
  unfold pushedPc
  split <;> exact ⟨rfl, rfl⟩

theorem pushedLoop_otherStacks (e : LoopEntry) (s : State) :
    (pushedLoop e s).pcStack = s.pcStack ∧ (pushedLoop e s).statusStack = s.statusStack := by
  unfold pushedLoop
  split <;> exact ⟨rfl, rfl⟩

theorem pushedSts_otherStacks (s : State) :
    (pushedSts s).pcStack = s.pcStack ∧ (pushedSts s).loopStack = s.loopStack := by
  unfold pushedSts
  split <;> exact ⟨rfl, rfl⟩

theorem poppedPc_otherStacks (s : State) :
    (poppedPc s).loopStack = s.loopStack ∧ (poppedPc s).statusStack = s.statusStack := by
  unfold poppedPc
  split <;> exact ⟨rfl, rfl⟩

theorem State.pcTop_congr {s t : State} (hs : t.pcStack = s.pcStack) (ht : t.tick = s.tick) : t.pcTop = s.pcTop := by
  simp only [pcTop, free, hs, ht]

theorem State.stsTop_congr {s t : State} (hs : t.statusStack = s.statusStack) (ht : t.tick = s.tick) :
    t.stsTop = s.stsTop := by
  simp only [stsTop, free, hs, ht]

theorem State.lpTop_congr {s t : State} (hs : t.loopStack = s.loopStack) (ht : t.tick = s.tick) : t.lpTop = s.lpTop := by
  simp only [lpTop, free, hs, ht]

/-! ## The pops with their values (R462) -/

/-- POP PC that brings `a`. -/
def poppedPcTo (a : Addr) (u : State) : State :=
  { poppedPc u with stacka := a.extractLsb' 0 16, stackp := a.extractLsb' 16 8 }

/-- POP LOOP that brings `e`. -/
def poppedLoopTo (e : LoopEntry) (u : State) : State :=
  { u with
    loopStack := u.loopStack.tail, stacka := e.first.extractLsb' 0 16, stackp := e.first.extractLsb' 16 8
    lpstacka := e.last.extractLsb' 0 16, lpstackp := ⟨e.forever, e.last.extractLsb' 16 8⟩, cntr := e.count
    windows := { u.windows with cntr := ⟨[u.cntr], 2⟩ } }

/-- A cache flush (R465). -/
def flushedCache (u : State) : State :=
  { u with stale := u.stale.map fun w => ⟨w.addr, w.old, some (min 7 (w.due.getD 7))⟩ }

theorem State.popPc_eq {s : State} (hi : s.windows.icntl = .closed) : s.popPc = poppedPcTo s.pcTop s := by
  rw [popPc, pcDrop_eq hi, poppedPcTo]

theorem State.popLoop_eq {s : State} (h : Settled s) : s.popLoop = poppedLoopTo s.lpTop s := by
  have hw : s.windows = Windows.closed := h
  simp only [popLoop, lpDrop, writeCntr, poppedLoopTo, Window.write, hw]
  rfl

theorem State.flushCache_eq (s : State) : s.flushCache = flushedCache s := rfl

theorem StackSettled.poppedLoopTo {s : State} (h : Settled s) (e : LoopEntry) : StackSettled (poppedLoopTo e s) := by
  have hw : s.windows = Windows.closed := h
  simp only [StackSettled, Machine.poppedLoopTo, hw]

theorem StackSettled.poppedPcTo {s : State} (h : StackSettled s) (a : Addr) : StackSettled (poppedPcTo a s) := by
  have hw : (Machine.poppedPcTo a s).windows = s.windows := (stacksOnly_poppedPc s).windows
  rw [StackSettled, hw]
  exact h

/-! ## A word of stack control (R461 to R465) -/

theorem stackBits_eq (pc lp sts : StackField) : stackBits pc lp sts = stackFree pc lp sts := by
  simp only [stackBits, stackFree, acts, isPush, isPop, Bool.or_assoc]
  rfl

theorem stackFree_eq_zero_iff (pc lp sts : StackField) :
    stackFree pc lp sts = 0 ↔ ¬(acts pc || acts lp || acts sts) = true := by
  unfold stackFree
  cases acts pc <;> cases acts lp <;> cases acts sts <;> decide

/-- The pushes of a word of stack control. -/
def pushesOf (pc lp sts : StackField) (s : State) : State :=
  let v := s.stackp ++ s.stacka
  let t1 := if pc = .push then pushedPc v s else s
  let t2 := if lp = .push then pushedLoop ⟨v, s.lpstackp.page ++ s.lpstacka, s.lpstackp.forever, s.cntr⟩ t1 else t1
  if sts = .push then pushedSts t2 else t2

/-- The pops of a word of stack control, with the values they bring. -/
def popsOf (pc lp sts : StackField) (a : Addr) (e : LoopEntry) (f : StatusEntry) (s : State) : State :=
  let t4 := if lp = .pop then poppedLoopTo e s else s
  let t5 := if pc = .pop then poppedPcTo a t4 else t4
  if sts = .pop then restored f (poppedSts t5) else t5

theorem stacksOnly_ite {s t u : State} {c : Prop} [Decidable c] (h : StacksOnly s t) (k : StacksOnly t u) :
    StacksOnly s (if c then u else t) := by
  split
  · exact h.trans k
  · exact h

theorem stacksOnly_pushesOf (pc lp sts : StackField) (s : State) : StacksOnly s (pushesOf pc lp sts s) :=
  stacksOnly_ite (stacksOnly_ite (stacksOnly_ite (.refl s) (stacksOnly_pushedPc _ s)) (stacksOnly_pushedLoop _ _))
    (stacksOnly_pushedSts _)

/-- A stack that no field pushes is as before. -/
theorem pushesOf_stacks (pc lp sts : StackField) (s : State) :
    (pc ≠ .push → (pushesOf pc lp sts s).pcStack = s.pcStack) ∧
    (lp ≠ .push → (pushesOf pc lp sts s).loopStack = s.loopStack) ∧
    (sts ≠ .push → (pushesOf pc lp sts s).statusStack = s.statusStack) := by
  unfold pushesOf
  refine ⟨fun hpc => ?_, fun hlp => ?_, fun hsts => ?_⟩
  · simp only [if_neg hpc]
    split <;> split <;> simp only [pushedSts_otherStacks, pushedLoop_otherStacks]
  · simp only [if_neg hlp]
    split <;> split <;> simp only [pushedSts_otherStacks, pushedPc_otherStacks]
  · simp only [if_neg hsts]
    split <;> split <;> simp only [pushedLoop_otherStacks, pushedPc_otherStacks]

theorem State.pushLoop_eq {s t : State} (h : StacksOnly s t) : t.pushLoop
    = pushedLoop ⟨s.stackp ++ s.stacka, s.lpstackp.page ++ s.lpstacka, s.lpstackp.forever, s.cntr⟩ t := by
  rw [pushLoop, lpPush_eq, show t = _ from h]

/-- The values popped matter where a field pops. -/
theorem popsOf_congr {pc lp sts : StackField} {a a' : Addr} {e e' : LoopEntry} {f f' : StatusEntry} (s : State)
    (ha : pc = .pop → a = a') (he : lp = .pop → e = e') (hf : sts = .pop → f = f') :
    popsOf pc lp sts a e f s = popsOf pc lp sts a' e' f' s := by
  have hlp : (if lp = .pop then poppedLoopTo e s else s) = if lp = .pop then poppedLoopTo e' s else s := by
    split
    next hp => rw [he hp]
    next => rfl
  have hpc : ∀ t, (if pc = .pop then poppedPcTo a t else t) = if pc = .pop then poppedPcTo a' t else t := fun t => by
    split
    next hp => rw [ha hp]
    next => rfl
  unfold popsOf
  simp only [hlp, hpc]
  split
  next hp => rw [hf hp]
  next => rfl

section SettledState

variable {s : State} (h : Settled s)
include h

theorem State.pushes_eq (pc lp sts : StackField) :
    (let t1 := if isPush pc then s.pushPc else s
      let t2 := if isPush lp then t1.pushLoop else t1
      if isPush sts then t2.stsPush else t2) = pushesOf pc lp sts s := by
  have h1 : (if isPush pc then s.pushPc else s) = if pc = .push then pushedPc (s.stackp ++ s.stacka) s else s := by
    rw [pushPc, pcPush_eq (Settled.icntl h)]
    simp only [isPush, decide_eq_true_eq]
  have hs1 : StacksOnly s (if pc = .push then pushedPc (s.stackp ++ s.stacka) s else s) :=
    stacksOnly_ite (.refl s) (stacksOnly_pushedPc _ s)
  simp only [h1]
  simp only [pushLoop_eq hs1, stsPush_eq, isPush, decide_eq_true_eq]
  rfl

theorem State.pops_eq (pc lp sts : StackField) :
    (let t4 := if isPop lp then s.popLoop else s
      let t5 := if isPop pc then t4.popPc else t4
      if isPop sts then t5.popStatus else t5) = popsOf pc lp sts s.pcTop s.lpTop s.stsTop s := by
  simp only [isPop, decide_eq_true_eq, popLoop_eq h, popsOf]
  generalize ht4 : (if lp = .pop then poppedLoopTo s.lpTop s else s) = t4
  have hq4 : StackSettled t4 ∧ t4.pcTop = s.pcTop ∧ t4.stsTop = s.stsTop := by
    subst ht4
    split
    · exact ⟨.poppedLoopTo h _, rfl, rfl⟩
    · exact ⟨Settled.stackSettled h, rfl, rfl⟩
  obtain ⟨hset4, hpc4, hsts4⟩ := hq4
  rw [popPc_eq (StackSettled.icntl hset4), hpc4]
  generalize ht5 : (if pc = .pop then poppedPcTo s.pcTop t4 else t4) = t5
  have hq5 : StackSettled t5 ∧ t5.stsTop = s.stsTop := by
    subst ht5
    split
    · have hframe := stacksOnly_poppedPc t4
      obtain ⟨-, hstack⟩ := poppedPc_otherStacks t4
      exact ⟨StackSettled.poppedPcTo hset4 _, (stsTop_congr (s := t4) hstack (StacksOnly.tick hframe)).trans hsts4⟩
    · exact ⟨hset4, hsts4⟩
  obtain ⟨hset5, hsts5⟩ := hq5
  rw [popStatus_eq hset5, hsts5]

/-- A word of stack control: the pushes, then the pops, then the flush, and the window of SSTAT. -/
theorem State.stackOps_eq (flush : Bool) (pc lp sts : StackField) :
    let t := popsOf pc lp sts s.pcTop s.lpTop s.stsTop (pushesOf pc lp sts s)
    let t7 := if flush then flushedCache t else t
    s.stackOps flush pc lp sts
      = if (acts pc || acts lp || acts sts) = true then ReadBack s (stackFree pc lp sts) t7 else t7 := by
  have hpush := stacksOnly_pushesOf pc lp sts s
  obtain ⟨hpc, hlp, hsts⟩ := pushesOf_stacks pc lp sts s
  have hpops := pops_eq (StacksOnly.settled hpush h) pc lp sts
  rw [popsOf_congr (a' := s.pcTop) (e' := s.lpTop) (f' := s.stsTop) (pushesOf pc lp sts s)
    (fun hp => pcTop_congr (hpc (by rw [hp]; decide)) (StacksOnly.tick hpush))
    (fun hp => lpTop_congr (hlp (by rw [hp]; decide)) (StacksOnly.tick hpush))
    (fun hp => stsTop_congr (hsts (by rw [hp]; decide)) (StacksOnly.tick hpush)), ← pushes_eq h] at hpops
  intro t t7
  have hpushes := pushes_eq h pc lp sts
  simp only at hpops hpushes
  simp only [stackOps, hpops, flushCache_eq, stackBits_eq, openSstat_eq, stackFree_eq_zero_iff, ite_not]
  rw [hpushes]

end SettledState

theorem bit_eq_ofBool (b : Bool) : bit b = BitVec.ofBool b := by cases b <;> rfl

theorem afterCond_pc (s : State) (c : Cond) : (afterCond s c).pc = s.pc := by rw [afterCond_frame]
theorem afterCond_tick (s : State) (c : Cond) : (afterCond s c).tick = s.tick := by rw [afterCond_frame]
theorem afterCond_pcStack (s : State) (c : Cond) : (afterCond s c).pcStack = s.pcStack := by rw [afterCond_frame]

theorem afterCond_statusStack (s : State) (c : Cond) : (afterCond s c).statusStack = s.statusStack := by
  rw [afterCond_frame]

/-- The SSTAT window that an instruction leaves does not show that its condition wrote CNTR. -/
theorem readBack_afterCond (s : State) (c : Cond) (bits : BitVec 8) (t : State) :
    ReadBack (afterCond s c) bits t = ReadBack s bits t := by
  rw [afterCond_frame]
  rfl

/-! ## Branches, calls and returns under a condition (R452 to R460) -/

section SettledState

variable {s : State} (h : Settled s)
include h

theorem State.indirectTarget_afterCond (c : Cond) (g : Dag) (i : Slot) :
    (afterCond s c).indirectTarget g i = s.ijpg ++ idx s g i := by
  rw [indirectTarget, index_settled (settled_afterCond h c), afterCond_frame]
  rfl

theorem State.call_eq (target : Addr) (db : Bool) :
    s.call target db = ReadBack s 0xFF (Branched target db (pushedPc (s.pc + if db then 3 else 1) s)) := by
  rw [call, pcPush_eq (Settled.icntl h), branch_eq, openSstat_all]

theorem State.returnFromCall_eq (db : Bool) :
    s.returnFromCall db = ReadBack s 0xFF (Branched s.pcTop db (poppedPc s)) := by
  rw [returnFromCall, pcDrop_eq (Settled.icntl h), branch_eq, openSstat_all]

end SettledState

theorem State.returnFromInterrupt_eq {s : State} (h : StackSettled s) (db : Bool) :
    s.returnFromInterrupt db
      = ReadBack s 0xFF
          { Branched s.pcTop db (restored s.stsTop (poppedSts (poppedPc s))) with inService := clearLowest s.inService } := by
  have hframe := stacksOnly_poppedPc s
  obtain ⟨-, hstack⟩ := poppedPc_otherStacks s
  have hset : StackSettled (poppedPc s) := StacksOnly.stackSettled hframe h
  have hserv : (restored s.stsTop (poppedSts (poppedPc s))).inService = s.inService := by
    have h1 : (poppedSts (poppedPc s)).inService = (poppedPc s).inService := by rw [stacksOnly_poppedSts]
    have h2 : (poppedPc s).inService = s.inService := by rw [hframe]
    exact h1.trans h2
  rw [returnFromInterrupt, pcDrop_eq (StackSettled.icntl h), popStatus_eq hset,
    stsTop_congr (s := s) hstack (StacksOnly.tick hframe)]
  simp only [hserv, branch_eq, openSstat_all]
  cases db <;> rfl


end Sys2Proof.Machine

namespace Sys2Proof.Claims

open Sys2Proof.Machine

/-- Settles O47: each jump branches in the state its condition leaves. -/
theorem jumpInstructions : Obligations.JumpInstructions := by
  refine ⟨fun db off c => ?_, fun db off => ?_, fun a c => ?_, fun db g c i => ?_,
    fun s db c h => ⟨fun off => ?_, fun _ => rfl, fun a => ?_, fun g i => ?_⟩⟩
  · rw [encode, bit_eq_ofBool]
  · rw [encode, bit_eq_ofBool]
  · rfl
  · rw [encode, bit_eq_ofBool]
  · refine State.conditionally_of_onCond h rfl ?_
    rw [State.branch_eq, afterCond_pc]
    rfl
  · exact State.conditionally_of_onCond h rfl rfl
  · refine State.conditionally_of_onCond h rfl ?_
    rw [State.branch_eq, State.indirectTarget_afterCond h]

/-- Settles O48. -/
theorem callInstructions : Obligations.CallInstructions := by
  intro s db c h ret
  have hu := settled_afterCond h c
  refine ⟨fun off => congrArg Host.Outcome.next (State.call_eq h _ db), fun a => ?_, fun g i => ?_⟩
  · refine State.conditionally_of_onCond h rfl ?_
    rw [State.pcPush_eq (Settled.icntl hu), State.branch_eq, State.openSstat_all, afterCond_pc]
  · refine State.conditionally_of_onCond h rfl ?_
    rw [State.call_eq hu, State.indirectTarget_afterCond h, readBack_afterCond, afterCond_pc]

/-- Settles O49: the popped address is the top of the PC stack. -/
theorem returnFromSubroutine : Obligations.ReturnFromSubroutine := by
  intro s db c h
  have hu := settled_afterCond h c
  refine State.conditionally_of_onCond h rfl ⟨(afterCond s c).pcTop, fun b rest hs => ?_, ?_⟩
  · exact State.pcTop_of_cons ((afterCond_pcStack s c).trans hs)
  · rw [State.returnFromCall_eq hu, readBack_afterCond]

/-- Settles O50: `clearLowest` leaves the innermost level. -/
theorem returnFromInterrupt : Obligations.ReturnFromInterrupt := by
  intro s db ss c h
  have hu := settled_afterCond h c
  have hserv : (afterCond s c).inService = s.inService := by rw [afterCond_frame]
  refine State.conditionally_of_onCond h rfl
    ⟨(afterCond s c).pcTop, (afterCond s c).stsTop, fun b rest hs => ?_, fun e rest hs => ?_, fun k => ?_, ?_⟩
  · exact State.pcTop_of_cons ((afterCond_pcStack s c).trans hs)
  · exact State.stsTop_of_cons ((afterCond_statusStack s c).trans hs)
  · rw [State.returnFromInterrupt_eq (Settled.stackSettled hu), ← hserv]
    exact clearLowest_get _ k
  · rw [State.returnFromInterrupt_eq (Settled.stackSettled hu), readBack_afterCond]
    rfl

/-- Settles O51: an offset of 0 is refused, any other pushes one entry. -/
theorem loopInstructions : Obligations.LoopInstructions := by
  intro s off _
  split
  next hoff => exact ⟨if_pos hoff, if_pos hoff⟩
  next hoff =>
    have hloop : ∀ forever, s.doLoop off forever = .next
        (ReadBack s 0xFF (pushedLoop ⟨s.pc + 1, s.pc + BitVec.ofNat 24 off.toNat, forever, s.cntr⟩ s)) := by
      intro forever
      rw [State.doLoop, if_neg hoff, State.lpPush_eq, State.openSstat_all, BitVec.ofNat_toNat]
    exact ⟨hloop false, hloop true⟩

/-- Settles O52: a word of stack control without pops and without a flush. -/
theorem stackPushes : Obligations.StackPushes := by
  intro s h v entry
  have hword : ∀ pc lp sts, pc ≠ .pop → lp ≠ .pop → sts ≠ .pop → (acts pc || acts lp || acts sts) = true →
      (.next (s.stackOps false pc lp sts) : Result)
        = .next (ReadBack s (stackFree pc lp sts) (pushesOf pc lp sts s)) := by
    intro pc lp sts hpc hlp hsts hacts
    rw [State.stackOps_eq h, if_pos hacts]
    simp only [popsOf, if_neg hpc, if_neg hlp, if_neg hsts]
    rfl
  refine ⟨hword .push .keep0 .keep0 ?_ ?_ ?_ ?_, hword .keep0 .push .keep0 ?_ ?_ ?_ ?_,
    hword .keep0 .keep0 .push ?_ ?_ ?_ ?_, hword⟩
  all_goals decide

/-- Settles O53: the values popped are the tops of the stacks before the word. -/
theorem stackPops : Obligations.StackPops := by
  intro s h
  refine ⟨s.pcTop, s.lpTop, s.stsTop, fun b rest => State.pcTop_of_cons, fun b rest => State.lpTop_of_cons,
    fun b rest => State.stsTop_of_cons, ?_⟩
  refine ⟨congrArg Host.Outcome.next (State.stackOps_eq h false .pop .keep0 .keep0),
    congrArg Host.Outcome.next (State.stackOps_eq h false .keep0 .pop .keep0),
    congrArg Host.Outcome.next (State.stackOps_eq h false .keep0 .keep0 .pop),
    congrArg Host.Outcome.next (State.stackOps_eq h true .keep0 .keep0 .keep0),
    fun flush pc lp sts => congrArg Host.Outcome.next (State.stackOps_eq h flush pc lp sts)⟩

end Sys2Proof.Claims
end

section
/-! SUPPORT, O54, O56, O58 to O60. Interrupt requests, mode fields, and an interrupt with its return (spec/45_program_flow.md
R466, R467, R470; spec/60_exceptions.md sections 2 to 4). -/

namespace Sys2Proof.Machine

open Sys2Proof.Claims

/-! ## One bit of a request register (R466, R467, R504) -/

theorem putBit_true_get (v : Word) (n : Nat) (hn : n < 16) (k : Nat) :
    (putBit v n true).getLsbD k = (decide (k = n) || v.getLsbD k) := by
  rw [putBit_get _ _ _ _ hn]
  split
  next hk => rw [decide_eq_true hk, Bool.true_or]
  next hk => rw [decide_eq_false hk, Bool.false_or]

theorem putBit_false_get (v : Word) (n : Nat) (hn : n < 16) (k : Nat) :
    (putBit v n false).getLsbD k = (!decide (k = n) && v.getLsbD k) := by
  rw [putBit_get _ _ _ _ hn]
  split
  next hk => rw [decide_eq_true hk, Bool.not_true, Bool.false_and]
  next hk => rw [decide_eq_false hk, Bool.not_false, Bool.true_and]

/-- Requests from outside are masked to the emulator's bit where GIE is 0. -/
theorem requestMask_get (req : Word) (gie : Bool) (k : Nat) :
    (req &&& if gie = true then 0xFFFF#16 else 0x0001#16).getLsbD k = (req.getLsbD k && (decide (k = 0) || gie)) := by
  by_cases hk : k < 16
  · rw [BitVec.getLsbD_and]
    congr 1
    revert k
    cases gie <;> decide
  · simp only [BitVec.getLsbD_of_ge _ k (Nat.le_of_not_lt hk), Bool.false_and]

theorem State.latchRequests_irptl_get (s : State) (req : Word) (k : Nat) :
    (s.latchRequests req).irptl.getLsbD k
      = (s.irptl.getLsbD k || (req.getLsbD k && (decide (k = 0) || s.icntl.getLsbD 5))) := by
  rw [latchRequests_irptl, BitVec.getLsbD_or, requestMask_get]

theorem State.applyInput_of_requests (s : State) {e : HostInput} (h : e.reset = false) :
    s.applyInput e = ({ s with pf := e.pf }).latchRequests e.irq := by
  simp only [applyInput, h, Bool.false_eq_true, if_false]

/-! ## Mode fields (R470) -/

theorem setMode_get_same {w : Nat} (f : ModeField) (i : Nat) (v : BitVec w) (hi : i < w) :
    (setMode f i v).getLsbD i = modeBit f (v.getLsbD i) := by
  rw [setMode_same f i v hi]
  cases f <;> rfl

theorem modeWindow_closed {α : Type} (f : ModeField) : modeWindow f (.closed : Window α) = .closed := by
  cases f <;> rfl

/-! ## Which interrupt is taken, and its entry (R505 to R510) -/

/-- The state in which the routine's first instruction is executed. -/
def entered (n : Nat) (s : State) : State :=
  let p := pushedSts (pushedPc s.pc s)
  { p with
    pc := s.params.vectorBase + 0x20 * BitVec.ofNat 24 n, idle := false, irptl := putBit p.irptl n false
    inService := putBit s.inService n true, tick := s.tick + 1, windows := sstatOpened s 0xFF 1 s.windows }

section SettledState

variable {s : State} (h : Settled s)
include h

theorem State.interruptEnabled_iff (n : Nat) : s.interruptEnabled n = true ↔
    n = 0 ∨ (s.icntl.getLsbD 5 = true ∧ (n = 1 ∨ s.imask.getLsbD n = true)) := by
  simp only [interruptEnabled, icntlEff_closed h, imaskEff_closed h]
  by_cases h0 : n = 0
  · rw [if_pos h0]
    exact iff_of_true rfl (.inl h0)
  by_cases h1 : n = 1
  · rw [if_neg h0, if_pos h1]
    exact ⟨fun hgie => .inr ⟨hgie, .inl h1⟩, fun hor => (hor.resolve_left h0).1⟩
  · rw [if_neg h0, if_neg h1, Bool.and_eq_true]
    simp only [h0, h1, false_or]

theorem State.levelAllows_iff {n : Nat} (hn : n < 16) : s.levelAllows n = true ↔
    n = 0 ∨ s.inService = 0 ∨ (s.icntl.getLsbD 4 = true ∧ ∀ k, k ≤ n → s.inService.getLsbD k = false) := by
  simp only [levelAllows, icntlEff_closed h]
  by_cases h0 : n = 0
  · rw [if_pos h0]
    exact iff_of_true rfl (.inl h0)
  by_cases hv : s.inService = 0
  · rw [if_neg h0, if_pos hv]
    exact iff_of_true rfl (.inr (.inl hv))
  by_cases hi : s.icntl.getLsbD 4 = true
  · rw [if_neg h0, if_neg hv, if_pos hi, decide_eq_true_eq, lt_lowestBit _ _ hn]
    simp only [h0, hv, hi, false_or, true_and]
  · rw [if_neg h0, if_neg hv, if_neg hi]
    simp only [h0, hv, hi, false_or, false_and, Bool.false_eq_true]

theorem State.serviceable_iff {n : Nat} (hn : n < 16) : s.serviceable n = true ↔ CanInterrupt s n := by
  simp only [serviceable, Bool.and_eq_true, interruptEnabled_iff h, levelAllows_iff h hn, CanInterrupt, hn, true_and,
    and_assoc]

/-- The interrupt taken is the lowest-numbered one that can be. -/
theorem State.interruptNow_iff (n : Nat) :
    s.interruptNow = some n ↔ s.dbpend = none ∧ CanInterrupt s n ∧ ∀ k, k < n → ¬CanInterrupt s k := by
  cases hd : s.dbpend with
  | some d => simp only [interruptNow_of_pending hd, reduceCtorEq, false_and]
  | none =>
    simp only [interruptNow, hd, List.find?_range_eq_some, List.mem_range, true_and]
    constructor
    · rintro ⟨hserv, hn, hfirst⟩
      refine ⟨(serviceable_iff h hn).mp hserv, fun k hk hcan => ?_⟩
      have hnot := hfirst k hk
      rw [(serviceable_iff h (show k < 16 by omega)).mpr hcan] at hnot
      cases hnot
    · rintro ⟨hcan, hfirst⟩
      have hn : n < 16 := hcan.1
      refine ⟨(serviceable_iff h hn).mpr hcan, hn, fun k hk => ?_⟩
      rw [Bool.not_eq_true', ← Bool.not_eq_true, serviceable_iff h (show k < 16 by omega)]
      exact hfirst k hk

theorem State.step_of_interrupt {n : Nat} (hin : s.inputs = []) (hn : s.interruptNow = some n) :
    step s = .next (entered n s) := by
  have hwin : (pushedSts (pushedPc s.pc s)).windows = s.windows :=
    ((stacksOnly_pushedPc s.pc s).trans (stacksOnly_pushedSts _)).windows
  rw [step, takeEvent_of_nil hin, sequence_of_interrupt hn, takeInterrupt, pcPush_eq (Settled.icntl h), stsPush_eq]
  simp only [hwin, entrySstat_closed h]
  rfl

end SettledState

/-! ## The return from the routine (R459) -/

/-- The level entered is the innermost one, so that leaving the innermost one leaves it. -/
theorem clearLowest_putBit {v : Word} {n : Nat} (hn : n < 16) (hlow : ∀ k, k ≤ n → v.getLsbD k = false) :
    clearLowest (putBit v n true) = v := by
  refine BitVec.eq_of_getLsbD_eq fun k _ => ?_
  rw [clearLowest_get]
  by_cases hk : k ≤ n
  · rw [hlow k hk, Bool.and_eq_false_iff, decide_eq_false_iff_not]
    refine .inr ?_
    rintro ⟨j, hj, hset⟩
    rw [putBit_ne _ _ _ _ hn (by omega), hlow j (by omega)] at hset
    cases hset
  · rw [putBit_ne _ _ _ _ hn (by omega), decide_eq_true ⟨n, by omega, putBit_same _ _ _ hn⟩, Bool.and_true]

/-- A stack operation requests no interrupt but 3. -/
theorem or_eight_get (v : Word) {k : Nat} (hk : k ≠ 3) : (v ||| 8).getLsbD k = v.getLsbD k := by
  rw [← putBit_three]
  exact putBit_ne _ _ _ _ (by decide) hk

theorem pushedPc_irptl_get (v : Addr) (s : State) {k : Nat} (hk : k ≠ 3) :
    (pushedPc v s).irptl.getLsbD k = s.irptl.getLsbD k := by
  unfold pushedPc
  split
  · exact or_eight_get _ hk
  · dsimp only
    split
    · exact or_eight_get _ hk
    · rfl

theorem poppedPc_irptl_get (s : State) {k : Nat} (hk : k ≠ 3) :
    (poppedPc s).irptl.getLsbD k = s.irptl.getLsbD k := by
  unfold poppedPc
  split
  · exact or_eight_get _ hk
  · dsimp only
    split
    · exact or_eight_get _ hk
    · rfl

/-- The entry where neither stack is full. -/
theorem entered_eq {s : State} (n : Nat) (hpc : s.pcStack.length < 33) (hsts : s.statusStack.length < 16) :
    entered n s = { s with
      pcStack := s.pc :: s.pcStack, statusStack := ⟨s.astat, s.mstat⟩ :: s.statusStack
      pc := s.params.vectorBase + 0x20 * BitVec.ofNat 24 n, idle := false
      irptl := putBit (pushedPc s.pc s).irptl n false, inService := putBit s.inService n true, tick := s.tick + 1
      windows := sstatOpened s 0xFF 1 s.windows } := by
  have hpush : pushedPc s.pc s
      = { s with pcStack := s.pc :: s.pcStack, irptl := (pushedPc s.pc s).irptl } := by
    simp only [pushedPc, if_neg (Nat.not_le.mpr hpc)]
  rw [entered, hpush]
  simp only [pushedSts, if_neg (Nat.not_le.mpr hsts)]

/-- An interrupt that can be taken and is not in service has no level in service below or at it. -/
theorem CanInterrupt.inService_low {s : State} {n : Nat} (h : CanInterrupt s n) (hn : s.inService.getLsbD n = false) :
    ∀ k, k ≤ n → s.inService.getLsbD k = false := by
  obtain ⟨-, -, -, hlevel⟩ := h
  intro k hk
  rcases hlevel with h0 | hv | ⟨-, hlow⟩
  · rw [show k = n by omega]
    exact hn
  · rw [hv]
    exact BitVec.getLsbD_zero
  · exact hlow k hk

end Sys2Proof.Machine

namespace Sys2Proof.Claims

open Sys2Proof.Machine

/-- Settles O54. -/
theorem interruptRequestsAreLatched : Obligations.InterruptRequestsAreLatched := by
  intro s n e rest
  refine ⟨⟨_, rfl, rfl, fun k => putBit_true_get _ _ n.isLt k⟩, ⟨_, rfl, rfl, fun k => putBit_false_get _ _ n.isLt k⟩,
    fun hin hr => ?_⟩
  rw [State.takeEvent_of_cons hin, State.applyInput_of_requests _ hr]
  exact ⟨rfl, fun k => State.latchRequests_irptl_get _ _ k⟩

/-- Settles O56: each field reaches its own bit, past the fields of the other bits. -/
theorem modeControl : Obligations.ModeControl := by
  refine ⟨fun f => by cases f <;> rfl, fun ti mm sat ol br sr sd int s => ⟨rfl, _, rfl, rfl, ?_⟩⟩
  refine ⟨?_, ?_, ?_, ?_, ?_, ?_, ?_, fun k => ?_, fun h => ?_⟩
  case refine_8 =>
    split
    next hk =>
      subst hk
      exact setMode_get_same int 5 s.icntl (by decide)
    next hk => exact setMode_ne int 5 s.icntl k (by decide) hk
  case refine_9 =>
    have hw : s.windows = Windows.closed := h
    simp only [Settled, hw]
    simp only [Windows.closed, modeWindow_closed]
  all_goals simp (disch := decide) only [setMode_get_same, setMode_ne]

/-- Settles O58. -/
theorem theHighestPriorityInterruptIsTaken : Obligations.TheHighestPriorityInterruptIsTaken := fun _ n h =>
  State.interruptNow_iff h n

/-- Settles O59. -/
theorem interruptEntry : Obligations.InterruptEntry := by
  intro s n h hin hn
  obtain ⟨-, ⟨hlt, -⟩, -⟩ := (State.interruptNow_iff h n).mp hn
  exact ⟨entered n s, State.step_of_interrupt h hin hn, fun k => putBit_false_get _ _ hlt k,
    fun k _ => putBit_true_get _ _ hlt k, rfl⟩

/-- Settles O60: the return pops what the entry pushed and leaves the level it entered. -/
theorem anInterruptAndItsReturnRestoreTheProgram : Obligations.AnInterruptAndItsReturnRestoreTheProgram := by
  intro s t n ss h hin hn hfree hpc hsts hstep
  obtain ⟨-, hcan, -⟩ := (State.interruptNow_iff h n).mp hn
  rw [State.step_of_interrupt h hin hn] at hstep
  cases hstep
  have hset : StackSettled (entered n s) := by
    rw [StackSettled, entered, show s.windows = Windows.closed from h]
    rfl
  refine ⟨(entered n s).returnFromInterrupt false, rfl, ?_⟩
  have hserv : clearLowest (entered n s).inService = s.inService :=
    clearLowest_putBit hcan.1 (CanInterrupt.inService_low hcan hfree)
  rw [State.returnFromInterrupt_eq hset, hserv, entered_eq n hpc hsts]
  refine ⟨rfl, fun k hkn hk3 => ?_⟩
  calc (poppedPc _).irptl.getLsbD k
      = (putBit (pushedPc s.pc s).irptl n false).getLsbD k := poppedPc_irptl_get _ hk3
    _ = (pushedPc s.pc s).irptl.getLsbD k := putBit_ne _ _ _ _ hcan.1 hkn
    _ = s.irptl.getLsbD k := pushedPc_irptl_get _ _ hk3

end Sys2Proof.Claims
end

section
/-! SUPPORT, O57. Effect latencies (spec/70_reset_and_hazards.md R560, R562): what a use sees through a window of one earlier
value while instructions are executed, and the windows that the named instructions open. -/

namespace Sys2Proof.Machine

open Sys2Proof.Claims

/-! ## The machine some instructions later -/

theorem aged_frame (k : Nat) (t : State) :
    aged k t = { t with windows := (aged k t).windows, stale := (aged k t).stale, tick := (aged k t).tick } := by
  induction k with
  | zero => rfl
  | succ k ih =>
    rw [aged, ih]
    rfl

theorem aged_sstat (k : Nat) (t : State) : (aged k t).sstat = t.sstat := by
  rw [aged_frame]
  rfl

/-- A window that ages by itself. -/
theorem aged_window {β : Type} (proj : Windows → β) (age : β → β) (hage : ∀ w, proj w.age = age (proj w)) (k : Nat)
    (t : State) : proj (aged k t).windows = Nat.repeat age k (proj t.windows) := by
  induction k with
  | zero => rfl
  | succ k ih => exact (hage _).trans (congrArg age ih)

/-- Ageing does not open a window. -/
theorem repeat_fixed {β : Type} {age : β → β} {w : β} (hfix : age w = w) (k : Nat) : Nat.repeat age k w = w := by
  induction k with
  | zero => rfl
  | succ k ih => exact (congrArg age ih).trans hfix

theorem Window.aged_closed {α : Type} (k : Nat) : Nat.repeat Window.age k (.closed : Window α) = .closed :=
  repeat_fixed rfl k

/-- A window of latency `n` is open for `n` more instructions. -/
theorem Window.aged_open {α : Type} (olds : List α) (n k : Nat) :
    Nat.repeat Window.age k ⟨olds, n + 1⟩ = if k ≤ n then ⟨olds, n - k + 1⟩ else .closed := by
  induction k with
  | zero => rw [if_pos (Nat.zero_le n)]; rfl
  | succ k ih =>
    show Window.age (Nat.repeat Window.age k ⟨olds, n + 1⟩) = _
    rw [ih]
    rcases Nat.lt_trichotomy k n with hlt | heq | hgt
    · rw [if_pos (by omega), if_pos (by omega), show n - k = n - (k + 1) + 1 by omega]
      rfl
    · rw [if_pos (by omega), if_neg (by omega), show n - k = 0 by omega]
      rfl
    · rw [if_neg (by omega), if_neg (by omega)]
      rfl

theorem SstatWindow.aged_left (lows highs : BitVec 8) {k : Nat} (hk : 2 ≤ k) :
    (Nat.repeat SstatWindow.age k ⟨lows, highs, 2⟩).left = 0 := by
  have hclosed : ∀ j, Nat.repeat SstatWindow.age (j + 2) ⟨lows, highs, 2⟩ = ⟨0, 0, 0⟩ := by
    intro j
    induction j with
    | zero => rfl
    | succ j ih => exact congrArg SstatWindow.age ih
  rw [show k = k - 2 + 2 by omega, hclosed]

/-! ## A use through a window -/

/-- A use that sees the architectural value alone. -/
theorem latent_of_eq {α : Type} {n : Nat} {see : State → α} {old new : α} {t : State}
    (h : ∀ k, see (aged k t) = new) : Latent n see old new t :=
  fun k _ => ⟨.inr (h k), fun _ => h k⟩

/-- A use that sees the field `cur` through the window `proj`, which a write of latency `n` has opened. -/
theorem latent_of_window {α : Type} {n : Nat} {see : State → α} {old : α} {t : State} (cur : State → α)
    (proj : Windows → Window α) (site : Site) (hsee : ∀ u, see u = (proj u.windows).see (cur u) u.tick site)
    (hage : ∀ w, proj w.age = (proj w).age) (hcur : ∀ k, cur (aged k t) = cur t)
    (hopen : proj t.windows = ⟨[old], n + 1⟩) : Latent n see old (cur t) t := by
  intro k _
  rw [hsee, hcur, Window.see, aged_window proj _ hage, hopen, Window.aged_open]
  by_cases hk : k ≤ n
  · rw [if_pos hk]
    exact ⟨choose_one _ _ _, fun hlt => absurd hk (by omega)⟩
  · rw [if_neg hk]
    exact ⟨.inr rfl, fun _ => rfl⟩

/-! ## The uses of each field (R560) -/

section Uses

variable {s t : State}

theorem latent_astat {old : BitVec 9} {n : Nat} (h : t.windows.astat = ⟨[old], n + 1⟩) (u : AstatUse) :
    Latent n (fun x => x.astatEff u) old t.astat t :=
  latent_of_window (fun u => u.astat) (fun w => w.astat) (.astat u) (fun _ => rfl) (fun _ => rfl) (fun k => by rw [aged_frame]) h

theorem latent_astat_closed {old : BitVec 9} {n : Nat} (h : t.windows.astat = .closed) (u : AstatUse) :
    Latent n (fun x => x.astatEff u) old t.astat t := by
  refine latent_of_eq fun k => ?_
  have hw : (aged k t).windows.astat = .closed := by
    rw [aged_window (fun w => w.astat) Window.age (fun _ => rfl), h, Window.aged_closed]
  rw [State.astatEff, hw, show (aged k t).astat = t.astat by rw [aged_frame]]
  rfl

theorem latent_ccode {old : BitVec 4} {n : Nat} (h : t.windows.ccode = ⟨[old], n + 1⟩) :
    Latent n (fun x => x.ccodeEff) old t.ccode t :=
  latent_of_window (fun u => u.ccode) (fun w => w.ccode) .ccode (fun _ => rfl) (fun _ => rfl) (fun k => by rw [aged_frame]) h

theorem latent_cntr {old : Word} {n : Nat} (h : t.windows.cntr = ⟨[old], n + 1⟩) :
    Latent n (fun x => x.cntrEff) old t.cntr t :=
  latent_of_window (fun u => u.cntr) (fun w => w.cntr) .cntr (fun _ => rfl) (fun _ => rfl) (fun k => by rw [aged_frame]) h

theorem latent_icntl {old : Word} {n : Nat} (h : t.windows.icntl = ⟨[old], n + 1⟩) (u : IcntlUse) :
    Latent n (fun x => x.icntlEff u) old t.icntl t :=
  latent_of_window (fun u => u.icntl) (fun w => w.icntl) (.icntl u) (fun _ => rfl) (fun _ => rfl) (fun k => by rw [aged_frame]) h

theorem latent_imask {old : Word} {n : Nat} (h : t.windows.imask = ⟨[old], n + 1⟩) (i : Nat) :
    Latent n (fun x => x.imaskEff i) old t.imask t :=
  latent_of_window (fun u => u.imask) (fun w => w.imask) (.imask i) (fun _ => rfl) (fun _ => rfl) (fun k => by rw [aged_frame]) h

/-- After a write of MSTAT: `t` has the windows of that write. -/
theorem mstatLatent_of_windows (h : t.windows = mstatWindows s.mstat t.windows) : MstatLatent s t.mstat t := by
  have hbit (b k : Nat) : (aged k t).mstat.getLsbD b = t.mstat.getLsbD b := by rw [aged_frame]
  refine ⟨fun r => ?_, ?_, latent_of_eq (hbit 2), ?_, ?_, fun g q => ?_⟩
  · exact latent_of_window (fun u => u.mstat.getLsbD 0) (fun w => w.secReg) (.dataBank r) (fun _ => rfl) (fun _ => rfl) (hbit 0)
      (congrArg Windows.secReg h)
  · exact latent_of_window (fun u => u.mstat.getLsbD 1) (fun w => w.bitRev) .bitReverse (fun _ => rfl) (fun _ => rfl) (hbit 1)
      (congrArg Windows.bitRev h)
  · exact latent_of_window (fun u => u.mstat.getLsbD 3) (fun w => w.arSat) .saturate (fun _ => rfl) (fun _ => rfl) (hbit 3)
      (congrArg Windows.arSat h)
  · exact latent_of_window (fun u => u.mstat.getLsbD 4) (fun w => w.mMode) .macMode (fun _ => rfl) (fun _ => rfl) (hbit 4)
      (congrArg Windows.mMode h)
  · exact latent_of_window (fun u => u.mstat.getLsbD 6) (fun w => w.secDag) (.dagBank g q) (fun _ => rfl) (fun _ => rfl) (hbit 6)
      (congrArg Windows.secDag h)

/-! ## SSTAT (R562) -/

theorem sstatLatent_closed (h : t.windows.sstat = ⟨0, 0, 0⟩) (free : Bool) (b : Nat) : SstatLatent free b s t := by
  refine latent_of_eq fun k => ?_
  have hw : (aged k t).windows.sstat = ⟨0, 0, 0⟩ := by
    rw [aged_window (fun w => w.sstat) SstatWindow.age (fun _ => rfl), h, repeat_fixed rfl k]
  rw [State.sstatRead_of_left (by rw [hw]), aged_sstat]

/-- After a stack operation that leaves the SSTAT bits `bits` free. -/
theorem sstatLatent_since {bits : BitVec 8} (h : t.windows.sstat = .since s.sstat bits 2) (b : Nat) :
    SstatLatent (bits.getLsbD b) b s t := by
  have hwin (k : Nat) : (aged k t).windows.sstat = Nat.repeat SstatWindow.age k (.since s.sstat bits 2) := by
    rw [aged_window (fun w => w.sstat) SstatWindow.age (fun _ => rfl), h]
  intro k hk
  rcases Nat.eq_or_lt_of_le hk with hone | hlater
  · subst hone
    obtain ⟨hor, hfix⟩ := State.sstatRead_since (n := 1) (hwin 1) b
    rw [aged_sstat] at hor hfix
    refine ⟨hor.symm, fun hlt => hfix ?_⟩
    cases hb : bits.getLsbD b with
    | false => rfl
    | true =>
      rw [hb] at hlt
      exact absurd hlt (by decide)
  · have hread : (aged k t).sstatRead = t.sstat := by
      rw [State.sstatRead_of_left (by rw [hwin k]; exact SstatWindow.aged_left _ _ hlater), aged_sstat]
    have hbit : (aged k t).sstatRead.getLsbD b = t.sstat.getLsbD b := by rw [hread]
    exact ⟨.inr hbit, fun _ => hbit⟩

end Uses

/-- After an instruction whose SSTAT window names the bits `bits`. -/
theorem sstatLatent_readBack (s u : State) (bits : BitVec 8) (b : Nat) :
    SstatLatent (bits.getLsbD b) b s (ReadBack s bits u) :=
  sstatLatent_since rfl b

/-- After an instruction that leaves all of SSTAT free; above bit 7 there is nothing to be free. -/
theorem sstatLatent_all (s u : State) (b : Nat) : SstatLatent true b s (ReadBack s 0xFF u) := by
  by_cases hb : b < 8
  · have hbit : (0xFF : BitVec 8).getLsbD b = true := by
      revert b
      decide
    exact hbit ▸ sstatLatent_readBack s u 0xFF b
  · refine latent_of_eq fun k => ?_
    simp only [BitVec.getLsbD_of_ge _ b (Nat.le_of_not_lt hb)]

/-! ## The instructions that write a field with a latency -/

/-- The low bits of a 12-bit immediate that was zero-filled to 16. -/
theorem extract_zeroFilled (v : BitVec 12) {n : Nat} (hn : n ≤ 12) :
    (v.setWidth 16).extractLsb' 0 n = v.setWidth n := by
  refine BitVec.eq_of_getLsbD_eq fun k hk => ?_
  simp only [BitVec.getLsbD_extractLsb', BitVec.getLsbD_setWidth, hk, Nat.zero_add, decide_true, Bool.true_and,
    show k < 16 by omega]

section SettledState

variable {s t : State} (h : Settled s)
include h

/-- POP STS and RTI restore the top `f` of the status stack, MSTAT being before it as in `s`. -/
theorem statusRestored {f : StatusEntry} {rest : List StatusEntry} {db ss : Bool} (hs : s.statusStack = f :: rest)
    (he : exec .popSts s = .next t ∨ exec (.rti db ss .always) s = .next t) :
    t.mstat = f.mstat ∧ t.astat = f.astat ∧
      t.windows = { mstatWindows s.mstat { s.windows with astat := .closed } with sstat := t.windows.sstat } := by
  have hf : s.stsTop = f := State.stsTop_of_cons hs
  rcases he with he | he
  · have ht : ReadBack s 0x80 (restored s.stsTop (poppedSts s)) = t :=
      (State.stackOps_eq h false .keep0 .keep0 .pop).symm.trans (Host.Outcome.next.inj he)
    have hframe : poppedSts s = _ := stacksOnly_poppedSts s
    rw [hf] at ht
    subst ht
    rw [hframe]
    exact ⟨rfl, rfl, rfl⟩
  · have ht : s.returnFromInterrupt db = t := Host.Outcome.next.inj he
    rw [State.returnFromInterrupt_eq (Settled.stackSettled h), hf] at ht
    subst ht
    have hframe : poppedSts (poppedPc s) = _ := (stacksOnly_poppedPc s).trans (stacksOnly_poppedSts _)
    rw [hframe]
    cases db <;> exact ⟨rfl, rfl, rfl⟩

theorem mstatLatent_loaded (v : BitVec 12) : MstatLatent s (v.setWidth 7) (s.writeReg (.g3 .mstat) (v.setWidth 16)) := by
  rw [← extract_zeroFilled v (show 7 ≤ 12 by decide)]
  refine mstatLatent_of_windows (t := s.writeReg (.g3 .mstat) (v.setWidth 16)) ?_
  rw [State.windows_writeReg h]
  rfl

/-- The SSTAT bits that a word of stack control leaves free. -/
theorem sstatLatent_stackOps (flush : Bool) (pc lp sts : StackField) (b : Nat) :
    SstatLatent ((stackFree pc lp sts).getLsbD b) b s (s.stackOps flush pc lp sts) := by
  rw [State.stackOps_eq h]
  split
  next => exact sstatLatent_readBack s _ _ b
  next hacts =>
    have hkeep : ∀ f, acts f = false → f ≠ .push ∧ f ≠ .pop := by
      intro f
      cases f <;> decide
    simp only [Bool.not_eq_true, Bool.or_eq_false_iff] at hacts
    obtain ⟨⟨hpc, hlp⟩, hsts⟩ := hacts
    obtain ⟨hpc1, hpc2⟩ := hkeep pc hpc
    obtain ⟨hlp1, hlp2⟩ := hkeep lp hlp
    obtain ⟨hsts1, hsts2⟩ := hkeep sts hsts
    have hsame : popsOf pc lp sts s.pcTop s.lpTop s.stsTop (pushesOf pc lp sts s) = s := by
      simp only [popsOf, pushesOf, if_neg hpc1, if_neg hpc2, if_neg hlp1, if_neg hlp2, if_neg hsts1, if_neg hsts2]
    have hsstat : s.windows.sstat = ⟨0, 0, 0⟩ := congrArg Windows.sstat (show s.windows = Windows.closed from h)
    rw [hsame]
    refine sstatLatent_closed ?_ _ b
    cases flush <;> exact hsstat

/-- Calls, returns and loop instructions leave all of SSTAT free. -/
theorem readBack_of_flow {db ss : Bool} {off : BitVec 16} {n : BitVec 12}
    (he : exec (.callRel16 db off) s = .next t ∨ exec (.rts db .always) s = .next t ∨
      exec (.rti db ss .always) s = .next t ∨ exec (.doUntilCe n) s = .next t) : ∃ u, t = ReadBack s 0xFF u := by
  rcases he with he | he | he | he
  · exact ⟨_, (Host.Outcome.next.inj he).symm.trans (State.call_eq h _ db)⟩
  · exact ⟨_, (Host.Outcome.next.inj he).symm.trans (State.returnFromCall_eq h db)⟩
  · exact ⟨_, (Host.Outcome.next.inj he).symm.trans (State.returnFromInterrupt_eq (Settled.stackSettled h) db)⟩
  · have hloop : s.doLoop n false = .next t := he
    rw [State.doLoop] at hloop
    split at hloop
    · cases hloop
    · exact ⟨_, (Host.Outcome.next.inj hloop).symm.trans (State.openSstat_all _ s)⟩

end SettledState

end Sys2Proof.Machine

namespace Sys2Proof.Claims

open Sys2Proof.Machine

/-- Settles O57: each named instruction opens the windows of what it writes. -/
theorem modeWritesTakeEffectInTime : Obligations.ModeWritesTakeEffectInTime := by
  intro s t h
  have hload {r : Reg} {v : Word} (he : (.next (s.writeReg r v) : Result) = .next t) :
      t = s.writeReg r v ∧ t.windows = windowsAfter r s := by
    cases he
    exact ⟨rfl, State.windows_writeReg h r v⟩
  refine ⟨fun v he => ?_, fun v he u => ?_, fun v he => ?_, fun v he => ?_, fun v he u => ?_, fun v he n => ?_,
    fun f rest db ss hs he => ?_, fun e rest hs he => ?_, fun flush pc lp sts he b => ?_, fun db ss off n he b => ?_⟩
  · obtain ⟨rfl, -⟩ := hload (r := .g3 .mstat) he
    exact mstatLatent_loaded h v
  · obtain ⟨rfl, hwin⟩ := hload (r := .g3 .astat) he
    rw [← extract_zeroFilled v (show 9 ≤ 12 by decide)]
    exact latent_astat (congrArg Windows.astat hwin) u
  · obtain ⟨rfl, hwin⟩ := hload (r := .g3 .ccode) he
    rw [← extract_zeroFilled v (show 4 ≤ 12 by decide)]
    exact latent_ccode (congrArg Windows.ccode hwin)
  · obtain ⟨rfl, hwin⟩ := hload (r := .g2 .cntr) he
    exact latent_cntr (congrArg Windows.cntr hwin)
  · obtain ⟨rfl, hwin⟩ := hload (r := .g1 .icntl) he
    exact latent_icntl (congrArg Windows.icntl hwin) u
  · obtain ⟨rfl, hwin⟩ := hload (r := .g1 .imask) he
    exact latent_imask (congrArg Windows.imask hwin) n
  · obtain ⟨hm, ha, hwin⟩ := statusRestored h hs he
    rw [← hm, ← ha]
    exact ⟨mstatLatent_of_windows (by rw [hwin]; rfl), fun u => latent_astat_closed (congrArg Windows.astat hwin) u⟩
  · have ht : s.stackOps false .keep0 .pop .keep0 = t := Host.Outcome.next.inj he
    rw [State.stackOps_eq h, State.lpTop_of_cons hs] at ht
    subst ht
    exact latent_cntr rfl
  · obtain rfl : s.stackOps flush pc lp sts = t := Host.Outcome.next.inj he
    exact sstatLatent_stackOps h flush pc lp sts b
  · obtain ⟨u, rfl⟩ := readBack_of_flow h he
    exact sstatLatent_all s u b

end Sys2Proof.Claims
end
